-- ==== Sys2Proof/Word.lean ====
section
/-! DEFINITION. The word types of the block: bytes of the stream and the buffer, the 16-bit checksum, the 32-bit Device State registers (00_scope.md R6, R7). -/

namespace Sys2Proof

/-- A byte: 8 bits, bit 0 least significant (R6). -/
abbrev Byte := BitVec 8

/-- A 16-bit value: a checksum or a raw Euler value (R7). -/
abbrev Half := BitVec 16

/-- A 32-bit value: a binary32 pattern or the health bitmask (R30 to R32). -/
abbrev Word := BitVec 32

end Sys2Proof
end

