-- ==== Sys2Proof/Config.lean ====
section
/-! DEFINITION. What the hardware fixes (00_scope.md R5), the names of the parser states (10_state.md R20), the input ports (10_state.md R40), and the record of the parameters the spec leaves open. -/

namespace Sys2Proof

/-- `DATA_CAP`: the payload buffer capacity, 64 bytes (R5). -/
def dataCap : Nat := 64

/-- `MAX_DATA_LEN`: the largest `data_length` the type byte can express, 60 bytes (R5). -/
def maxDataLen : Nat := 60

/-- `SYNC0`, the code of `'s'` (R5, D10; log entry 4). -/
def sync0 : Byte := 0x73#8

/-- `SYNC1`, the code of `'n'` (R5, D10; log entry 4). -/
def sync1 : Byte := 0x6E#8

/-- `SYNC2`, the code of `'p'` (R5, D10; log entry 4). -/
def sync2 : Byte := 0x70#8

/-- `SYNC_SUM` = `SYNC0 + SYNC1 + SYNC2` = 0x0151 (R5). -/
def syncSum : Nat := sync0.toNat + sync1.toNat + sync2.toNat

/-- `EULER_SCALE` is the decimal number 91.02222, exactly 9102222/100000 (R5, R186): its numerator. -/
def eulerScaleNum : Nat := 9102222

/-- `EULER_SCALE` is the decimal number 91.02222, exactly 9102222/100000 (R5, R186): its denominator. -/
def eulerScaleDen : Nat := 100000

/-- The eight values of the register `state`, in the order the source names them (R20).
In `syncSnp` the byte consumed is the packet type, in `type` it is the address (R12). -/
inductive ParserState where
  | zero | syncS | syncSn | syncSnp | type | payload | checkHigh | checkLow
  deriving DecidableEq, Repr

/-- The 3-bit encoding of `state`: 0 to 7 in the listed order (R5, R20, D4); no port carries it. -/
def ParserState.code : ParserState → BitVec 3
  | .zero => 0#3
  | .syncS => 1#3
  | .syncSn => 2#3
  | .syncSnp => 3#3
  | .type => 4#3
  | .payload => 5#3
  | .checkHigh => 6#3
  | .checkLow => 7#3

/-- What the input ports carry in one step (R40). -/
structure Ports where
  /-- `rst`: reset request. -/
  rst : Bool
  /-- `resync`: the consumer's abort of the wait for a byte. -/
  resync : Bool
  /-- `byte_valid`: the transport presents a byte in this step. -/
  byteValid : Bool
  /-- `byte_in`: the byte presented, meaningful only when `byteValid`. -/
  byteIn : Byte
  /-- `fw_consume`: the consumer has taken the firmware string. -/
  fwConsume : Bool
  deriving DecidableEq, Repr

/-- All ports 0: a step with no byte and no request (R227). -/
def Ports.quiet : Ports := ⟨false, false, false, 0#8, false⟩

/-- A step in which the transport presents `c` and the consumer asks for nothing. -/
def Ports.ofByte (c : Byte) : Ports := ⟨false, false, true, c, false⟩

/-- `INIT_PKT`: the reset values of `idx` and the Packet registers (R5, R28, R250). -/
structure PacketInit where
  idx : BitVec 6
  packetType : Byte
  address : Byte
  data : List Host.Cell
  checksum1 : Byte
  checksum0 : Byte
  deriving DecidableEq, Repr

/-- `INIT_DEV`: the reset values of the Device State registers (R5, R39, R250). -/
structure DeviceInit where
  roll : Word
  pitch : Word
  yaw : Word
  rollRate : Word
  pitchRate : Word
  yawRate : Word
  gyroX : Word
  gyroY : Word
  gyroZ : Word
  error : Word
  firmwareString : Vector Byte 4
  deriving DecidableEq, Repr

/-- The parameters R5 leaves open. The machine carries one record of them and no step changes it, so that a statement
about every state is a statement about every value of them (log entry 3).
`eulerTable` makes `EulerScaleFn` a parameter held as plain data: it lists the raw values at which this implementation's
function differs from the reference definition of R186, with the pattern it gives there (log entry 7). -/
structure Config where
  addrFw : Byte
  addrHealth : Byte
  addrEuler : Byte
  addrGyro : Byte
  addrCmdGetFw : Byte
  addrCmdZeroGyros : Byte
  addrCmdResetFilter : Byte
  addrCmdSetMagRef : Byte
  eulerTable : List (Half × Word)
  initPkt : PacketInit
  initDev : DeviceInit
  deriving DecidableEq, Repr

/-- The four register addresses are pairwise distinct (R5, R92). -/
def Config.addressesDistinct (cfg : Config) : Bool :=
  [cfg.addrFw, cfg.addrHealth, cfg.addrEuler, cfg.addrGyro].Nodup

end Sys2Proof
end

