-- ==== Sys2Proof/Machine/Reference.lean ====
section
/-! DEFINITION. The values the model's reset state gives the parameters the spec leaves open: the reference values of 92_eei_decisions.md D9, D11, D15, D24. -/

namespace Sys2Proof

/-- The reset values of `idx` and the Packet registers at reset of the model: all zeros, the value D15 recommends
(log entry 5). The buffer lists nothing. -/
def PacketInit.reference : PacketInit := ⟨0#6, 0x00#8, 0x00#8, [], 0x00#8, 0x00#8⟩

/-- The reset values of the Device State registers at reset of the model: all zero bits, the value D15 recommends
(log entry 5). -/
def DeviceInit.reference : DeviceInit :=
  ⟨0#32, 0#32, 0#32, 0#32, 0#32, 0#32, 0#32, 0#32, 0#32, 0#32, #v[0x00#8, 0x00#8, 0x00#8, 0x00#8]⟩

/-- The reference set of parameters: the addresses of D9 and D24, the reference `EulerScaleFn` of D11 with no
deviation (log entries 3 and 7). -/
def Config.reference : Config where
  addrFw := 0xAA#8
  addrHealth := 0x55#8
  addrEuler := 0x70#8
  addrGyro := 0x61#8
  addrCmdGetFw := 0xAA#8
  addrCmdZeroGyros := 0xAD#8
  addrCmdResetFilter := 0xB3#8
  addrCmdSetMagRef := 0xB0#8
  eulerTable := []
  initPkt := .reference
  initDev := .reference

end Sys2Proof
end

