-- ==== Sys2Proof/Syntax.lean ====
section
/-! DEFINITION. The instructions: one constructor per row of spec/opcode_table.json (30_encoding.md R95, R100). An instruction of this hardware is one input byte with the parser state that decodes it, an operation of the Field Decoder, a port event, or the collaborator's command frame (00_scope.md R9). -/

namespace Sys2Proof

/-- The rows of the opcode table. -/
inductive Instr where
  /-- `Z.S`: first sync character found (R120). -/
  | zS
  /-- `Z.SKIP`: byte skipped while hunting (R121). -/
  | zSkip (c : Byte)
  /-- `S.N`: second sync character found (R122). -/
  | sN
  /-- `S.MISS`: sync mismatch after `'s'` (R123). -/
  | sMiss (c : Byte)
  /-- `SN.P`: third sync character found (R124). -/
  | snP
  /-- `SN.MISS`: sync mismatch after `'s','n'` (R125). -/
  | snMiss (c : Byte)
  /-- `PT.NODATA`: type byte with `has_data = 0` (R130). -/
  | ptNodata (isBatch : Bool) (batchLength : BitVec 4) (isHidden : Bool) (commandFailed : Bool)
  /-- `PT.SINGLE`: type byte with `has_data = 1`, `is_batch = 0` (R131). -/
  | ptSingle (batchLength : BitVec 4) (isHidden : Bool) (commandFailed : Bool)
  /-- `PT.BATCH`: type byte with `has_data = 1`, `is_batch = 1` (R132). -/
  | ptBatch (batchLength : BitVec 4) (isHidden : Bool) (commandFailed : Bool)
  /-- `ADDR`: the register-address byte (R136). -/
  | addr (c : Byte)
  /-- `PL`: one payload byte (R150). -/
  | pl (c : Byte)
  /-- `CKH`: high checksum byte (R160). -/
  | ckh (c : Byte)
  /-- `CKL`: low checksum byte and terminal action (R161). -/
  | ckl (c : Byte)
  /-- `DEC.FW`: firmware-version response (R181). -/
  | decFw
  /-- `DEC.HEALTH`: health/status response (R183). -/
  | decHealth
  /-- `DEC.EULER`: orientation (Euler) response (R185). -/
  | decEuler
  /-- `DEC.GYRO`: raw-gyro response (R188). -/
  | decGyro
  /-- `DEC.NOP`: unrecognised address (R190). -/
  | decNop
  /-- `RESET`: `rst = 1` (R250). -/
  | reset
  /-- `FWCONSUME`: the consumer takes the firmware string (R228). -/
  | fwConsume
  /-- `RESYNC`: the consumer's abort (R226). -/
  | resync
  /-- `IDLE`: no byte and no request (R227). -/
  | idle
  /-- `CMD`: the seven-byte command frame (R210), as the byte sequence the parser receives (R212). -/
  | cmd (a : Byte)
  deriving DecidableEq, Repr

end Sys2Proof
end

