-- ==== Sys2Proof/WellFormed.lean ====
section
/-! DEFINITION. Which terms of `Instr` stand for a byte the table gives their row: the three default rows of the sync states do not take the byte their state waits for (30_encoding.md R91, R95). -/

namespace Sys2Proof

/-- A default row of a sync state never carries the byte that selects the row before it: `Z.SKIP` has `c != SYNC0`
(R121), `S.MISS` has `c != SYNC1` (R123), `SN.MISS` has `c != SYNC2` (R125). Every other operand takes every value. -/
def Instr.wellFormed : Instr → Bool
  | .zS => true
  | .zSkip c => c != sync0
  | .sN => true
  | .sMiss c => c != sync1
  | .snP => true
  | .snMiss c => c != sync2
  | .ptNodata _ _ _ _ => true
  | .ptSingle _ _ _ => true
  | .ptBatch _ _ _ => true
  | .addr _ => true
  | .pl _ => true
  | .ckh _ => true
  | .ckl _ => true
  | .decFw => true
  | .decHealth => true
  | .decEuler => true
  | .decGyro => true
  | .decNop => true
  | .reset => true
  | .fwConsume => true
  | .resync => true
  | .idle => true
  | .cmd _ => true

end Sys2Proof
end

