-- ==== Sys2Proof/Decode.lean ====
section
/-! DEFINITION. The type byte's fields (10_state.md R23), the decoder (30_encoding.md R91, R92, R95; 60_exceptions.md R229), the frame layouts (R90, R99, R210), and after them the encoder. -/

namespace Sys2Proof

/-! ## Format PT: the fields of the type byte (R23, R93) -/

/-- `has_data(pt) = pt[7]`. -/
def hasData (pt : Byte) : Bool := pt.getLsbD 7

/-- `is_batch(pt) = pt[6]`. -/
def isBatch (pt : Byte) : Bool := pt.getLsbD 6

/-- `batch_length(pt) = pt[5:2]`. -/
def batchLength (pt : Byte) : BitVec 4 := pt.extractLsb' 2 4

/-- `is_hidden(pt) = pt[1]`. -/
def isHidden (pt : Byte) : Bool := pt.getLsbD 1

/-- `command_failed(pt) = pt[0]`. -/
def commandFailed (pt : Byte) : Bool := pt.getLsbD 0

/-- The type byte with the given fields, in the layout of R23: `has_data`, `is_batch`, `batch_length`, `is_hidden`,
`command_failed` from bit 7 down. -/
def typeByte (hasData isBatch : Bool) (batchLength : BitVec 4) (isHidden commandFailed : Bool) : Byte :=
  BitVec.ofBool hasData ++ BitVec.ofBool isBatch ++ batchLength ++ BitVec.ofBool isHidden ++ BitVec.ofBool commandFailed

/-- `data_length(pt)`: 0 with no payload, 4 when not batched, `4 * batch_length` when batched (R133). -/
def dataLength (pt : Byte) : Nat :=
  if hasData pt = false then 0
  else if isBatch pt = false then 4
  else 4 * (batchLength pt).toNat

/-! ## Stream bytes: formats B and PT (R91, R95) -/

/-- The thirteen byte classes of R95, without operands. -/
inductive ByteClass where
  | zS | zSkip | sN | sMiss | snP | snMiss | ptNodata | ptSingle | ptBatch | addr | pl | ckh | ckl
  deriving DecidableEq, Repr

/-- Which rule the byte `c` selects in state `st`: the two-stage case of R91. -/
def classify (st : ParserState) (c : Byte) : ByteClass :=
  match st with
  | .zero => if c = sync0 then .zS else .zSkip
  | .syncS => if c = sync1 then .sN else .sMiss
  | .syncSn => if c = sync2 then .snP else .snMiss
  | .syncSnp =>
    if hasData c = false then .ptNodata
    else if isBatch c = false then .ptSingle
    else .ptBatch
  | .type => .addr
  | .payload => .pl
  | .checkHigh => .ckh
  | .checkLow => .ckl

/-- The instruction of a byte class, its operands pulled out of the byte. -/
def ByteClass.instr (k : ByteClass) (c : Byte) : Instr :=
  match k with
  | .zS => .zS
  | .zSkip => .zSkip c
  | .sN => .sN
  | .sMiss => .sMiss c
  | .snP => .snP
  | .snMiss => .snMiss c
  | .ptNodata => .ptNodata (isBatch c) (batchLength c) (isHidden c) (commandFailed c)
  | .ptSingle => .ptSingle (batchLength c) (isHidden c) (commandFailed c)
  | .ptBatch => .ptBatch (batchLength c) (isHidden c) (commandFailed c)
  | .addr => .addr c
  | .pl => .pl c
  | .ckh => .ckh c
  | .ckl => .ckl c

/-- The instruction a byte stands for under a parser state: total, every byte in every state has exactly one (R91). -/
def decodeByte (st : ParserState) (c : Byte) : Instr := (classify st c).instr c

/-- A row of the opcode map of R95 for a stream byte: selected in its state when `(c & mask) == match`. -/
structure ByteRow where
  cls : ByteClass
  state : ParserState
  pattern : Byte
  mask : Byte
  deriving DecidableEq, Repr

/-- The stream-byte rows of R95, in the order listed there. -/
def byteRows : List ByteRow :=
  [⟨.zS, .zero, sync0, 0xFF#8⟩, ⟨.zSkip, .zero, 0x00#8, 0x00#8⟩,
   ⟨.sN, .syncS, sync1, 0xFF#8⟩, ⟨.sMiss, .syncS, 0x00#8, 0x00#8⟩,
   ⟨.snP, .syncSn, sync2, 0xFF#8⟩, ⟨.snMiss, .syncSn, 0x00#8, 0x00#8⟩,
   ⟨.ptNodata, .syncSnp, 0x00#8, 0x80#8⟩, ⟨.ptSingle, .syncSnp, 0x80#8, 0xC0#8⟩,
   ⟨.ptBatch, .syncSnp, 0xC0#8, 0xC0#8⟩,
   ⟨.addr, .type, 0x00#8, 0x00#8⟩, ⟨.pl, .payload, 0x00#8, 0x00#8⟩,
   ⟨.ckh, .checkHigh, 0x00#8, 0x00#8⟩, ⟨.ckl, .checkLow, 0x00#8, 0x00#8⟩]

/-- The first row of R95 that the byte `c` selects in state `st`. -/
def firstByteRow (st : ParserState) (c : Byte) : Option ByteClass :=
  (byteRows.find? fun r => decide (r.state = st) && decide (c &&& r.mask = r.pattern)).map (·.cls)

/-! ## The Field Decoder's selection: format A (R92) -/

/-- The five operations of the Field Decoder (44_field_decode.md R180). -/
inductive FieldOp where
  | fw | health | euler | gyro | nop
  deriving DecidableEq, Repr

/-- Which operation the value of the `address` register selects (R92). -/
def selectField (cfg : Config) (a : Byte) : FieldOp :=
  if a = cfg.addrFw then .fw
  else if a = cfg.addrHealth then .health
  else if a = cfg.addrEuler then .euler
  else if a = cfg.addrGyro then .gyro
  else .nop

/-- The instruction of a Field Decoder operation. -/
def FieldOp.instr : FieldOp → Instr
  | .fw => .decFw
  | .health => .decHealth
  | .euler => .decEuler
  | .gyro => .decGyro
  | .nop => .decNop

/-! ## Port events: format PORT (R229) -/

/-- What one step runs, in order, for the ports `p` in the parser state `st`: `rst` over everything; otherwise
FWCONSUME when asked, then `resync` over a byte over nothing (R229). -/
def selectEvents (st : ParserState) (p : Ports) : List Instr :=
  if p.rst then [.reset]
  else
    (if p.fwConsume then [.fwConsume] else []) ++
    [if p.resync then .resync else if p.byteValid then decodeByte st p.byteIn else .idle]

/-! ## Frames as byte sequences: format SEQ (R90, R99, R210) -/

/-- The high byte of a 16-bit value, `v[15:8]`. -/
def highByte (v : Half) : Byte := v.extractLsb' 8 8

/-- The low byte of a 16-bit value, `v[7:0]`. -/
def lowByte (v : Half) : Byte := v.extractLsb' 0 8

/-- `CMD(addr)`: the seven bytes of R210. -/
def commandFrame (a : Byte) : List Byte :=
  let sum : Half := BitVec.ofNat 16 (syncSum + a.toNat)
  [sync0, sync1, sync2, 0x00#8, a, highByte sum, lowByte sum]

/-- `mod16(SYNC_SUM + pt + addr + b0 + ... + b(L-1))`, the checksum a well-formed frame carries (R90, R99). -/
def frameSum (pt a : Byte) (payload : List Byte) : Half :=
  BitVec.ofNat 16 (syncSum + pt.toNat + a.toNat + (payload.map BitVec.toNat).sum)

/-- A frame with the checksum value `sum`: the layout of R90. -/
def frameWith (pt a : Byte) (payload : List Byte) (sum : Half) : List Byte :=
  [sync0, sync1, sync2, pt, a] ++ payload ++ [highByte sum, lowByte sum]

/-- `FRAME(pt, addr, [b0 ...])`: the well-formed frame (R99). -/
def frame (pt a : Byte) (payload : List Byte) : List Byte := frameWith pt a payload (frameSum pt a payload)

/-- The address of a command frame, if the bytes are one. -/
def commandAddress : List Byte → Option Byte
  | [s, n, p, t, a, hi, lo] => if [s, n, p, t, a, hi, lo] = commandFrame a then some a else none
  | _ => none

/-! ## Every format at once -/

/-- The encoding of an instruction, by format (R93, R100). -/
inductive Encoding where
  /-- Formats B and PT: a stream byte, under the parser state that decodes it. -/
  | stream (st : ParserState) (c : Byte)
  /-- Format A: the value of the `address` register at dispatch. -/
  | register (a : Byte)
  /-- Format PORT: the values of the input ports. -/
  | port (p : Ports)
  /-- Format SEQ: a sequence of bytes. -/
  | sequence (bytes : List Byte)
  deriving DecidableEq, Repr

/-- Why an encoding is no instruction. -/
inductive Reject where
  /-- The ports present a stream byte and ask for nothing: format B or PT decodes it, under a state. -/
  | presentsStreamByte
  /-- The sequence of bytes is no command frame. -/
  | notACommandFrame
  deriving DecidableEq, Repr

/-- The port event the ports select first (the priorities of R229 and of the table's PORT rows). -/
def decodePort (p : Ports) : Except Reject Instr :=
  if p.rst then .ok .reset
  else if p.fwConsume then .ok .fwConsume
  else if p.resync then .ok .resync
  else if p.byteValid then .error .presentsStreamByte
  else .ok .idle

/-- The decoder: total, and it rejects by name. -/
def decode (cfg : Config) : Encoding → Except Reject Instr
  | .stream st c => .ok (decodeByte st c)
  | .register a => .ok (selectField cfg a).instr
  | .port p => decodePort p
  | .sequence bytes =>
    match commandAddress bytes with
    | some a => .ok (.cmd a)
    | none => .error .notACommandFrame

/-! ## The opcode table's words -/

/-- The parser state a lone table word is decoded under. A byte has no meaning without a state (R98) and the table's
number carries none, so the word is read under the first state whose row fixes it: the three sync characters under the
state that waits for them, every other byte as a type byte (log entry 11). -/
def tableState (c : Byte) : ParserState :=
  if c = sync0 then .zero
  else if c = sync1 then .syncS
  else if c = sync2 then .syncSn
  else .syncSnp

/-- The seven bytes of a table word, the first at bits 7..0. -/
def tableBytes (w : Nat) : List Byte :=
  [BitVec.ofNat 8 w, BitVec.ofNat 8 (w / 2 ^ 8), BitVec.ofNat 8 (w / 2 ^ 16), BitVec.ofNat 8 (w / 2 ^ 24),
   BitVec.ofNat 8 (w / 2 ^ 32), BitVec.ofNat 8 (w / 2 ^ 40), BitVec.ofNat 8 (w / 2 ^ 48)]

/-- The encoding a table word of `nbits` bits stands for: no bits, no byte in the step (IDLE); 8 bits, a stream byte;
56 bits, a sequence of seven bytes. -/
def tableEncoding (nbits w : Nat) : Option Encoding :=
  if nbits = 0 then some (.port .quiet)
  else if nbits = 8 then some (.stream (tableState (BitVec.ofNat 8 w)) (BitVec.ofNat 8 w))
  else if nbits = 56 then some (.sequence (tableBytes w))
  else none

/-- The instruction the decoder reads from the table word `w` of `nbits` bits. (No table word is of format A, so the
addresses of the configuration play no part.) -/
def decodeTableWord (nbits w : Nat) : Option Instr :=
  (tableEncoding nbits w).bind fun e => (decode Config.reference e).toOption

/-- The ports of the steps that present the bytes of a table word, oldest first. -/
def tablePorts (nbits w : Nat) : List Ports :=
  match tableEncoding nbits w with
  | some (.stream _ c) => [.ofByte c]
  | some (.register _) => []
  | some (.port p) => [p]
  | some (.sequence bytes) => bytes.map .ofByte
  | none => []

/-- The parser state a table word needs, if it needs one: a command frame starts between frames (R212). -/
def tableParserState (nbits w : Nat) : Option ParserState :=
  match tableEncoding nbits w with
  | some (.stream st _) => some st
  | some (.register _) => none
  | some (.port _) => none
  | some (.sequence _) => some .zero
  | none => none

/-! ## The encoder -/

/-- An address that none of the four parameters equals (R190: 252 values do): the first of five candidates. -/
def unmappedAddress (cfg : Config) : Byte :=
  (([0x00#8, 0x01#8, 0x02#8, 0x03#8, 0x04#8] : List Byte).find? fun a => decide (selectField cfg a = .nop)).getD 0x00#8

/-- The encoding of an instruction, written from the rows of R95 and R100. -/
def encode (cfg : Config) : Instr → Encoding
  | .zS => .stream .zero sync0
  | .zSkip c => .stream .zero c
  | .sN => .stream .syncS sync1
  | .sMiss c => .stream .syncS c
  | .snP => .stream .syncSn sync2
  | .snMiss c => .stream .syncSn c
  | .ptNodata b n h f => .stream .syncSnp (typeByte false b n h f)
  | .ptSingle n h f => .stream .syncSnp (typeByte true false n h f)
  | .ptBatch n h f => .stream .syncSnp (typeByte true true n h f)
  | .addr c => .stream .type c
  | .pl c => .stream .payload c
  | .ckh c => .stream .checkHigh c
  | .ckl c => .stream .checkLow c
  | .decFw => .register cfg.addrFw
  | .decHealth => .register cfg.addrHealth
  | .decEuler => .register cfg.addrEuler
  | .decGyro => .register cfg.addrGyro
  | .decNop => .register (unmappedAddress cfg)
  | .reset => .port ⟨true, false, false, 0x00#8, false⟩
  | .fwConsume => .port ⟨false, false, false, 0x00#8, true⟩
  | .resync => .port ⟨false, true, false, 0x00#8, false⟩
  | .idle => .port ⟨false, false, false, 0x00#8, false⟩
  | .cmd a => .sequence (commandFrame a)

end Sys2Proof
end

