-- ==== Sys2Proof/Machine/State.lean ====
section
/-! DEFINITION. The machine's state as plain data (10_state.md), the ways a step may stop, and the state after reset (70_reset_and_hazards.md R250). -/

namespace Sys2Proof.Machine

/-- The state of the block: every register 10_state.md names, and beside them the outputs of the last step, the inputs of
the coming steps and the open parameters, which the step reads but which are no registers (log entries 1 to 3). -/
structure State where
  /-- `state`: which rule decodes the next byte (R20). -/
  state : ParserState
  /-- `idx`: the running payload index (R21). -/
  idx : BitVec 6
  /-- `packet_type` (R22). -/
  packetType : Byte
  /-- `address` (R24). -/
  address : Byte
  /-- `data[0..63]`, the payload buffer (R25), in the canonical form `Memory.wf`. -/
  data : List Host.Cell
  /-- `checksum1`, the transmitted checksum's high byte (R26). -/
  checksum1 : Byte
  /-- `checksum0`, the transmitted checksum's low byte (R26). -/
  checksum0 : Byte
  /-- `roll` (R30). -/
  roll : Word
  /-- `pitch` (R30). -/
  pitch : Word
  /-- `yaw` (R30). -/
  yaw : Word
  /-- `roll_rate` (R30). -/
  rollRate : Word
  /-- `pitch_rate` (R30). -/
  pitchRate : Word
  /-- `yaw_rate` (R30). -/
  yawRate : Word
  /-- `gyro_x` (R31). -/
  gyroX : Word
  /-- `gyro_y` (R31). -/
  gyroY : Word
  /-- `gyro_z` (R31). -/
  gyroZ : Word
  /-- `error`, the health bitmask (R32). -/
  error : Word
  /-- `firmware_string[0..3]` (R34); byte 4 is hardwired and not stored. -/
  firmwareString : Vector Byte 4
  /-- `new_fw_string` (R35). -/
  newFwString : Bool
  /-- `frame_done` of the step that led here (R41). -/
  frameDone : Bool
  /-- `frame_ok` of the step that led here (R41). -/
  frameOk : Bool
  /-- What the input ports carry in the coming steps, oldest first; all ports 0 once the list is empty (R40, R253). -/
  inputs : List Ports
  /-- The open parameters (R5). -/
  config : Config
  deriving DecidableEq, Repr

/-- The ways a step may fault: none. `Step` is total, no rule of the block is a fault (60_exceptions.md R229;
93_implementation_defined.md Part 1: "Nothing in this block is treated as fault or stuck"), so the type is empty. -/
inductive Fault where
  deriving DecidableEq, Repr

/-- The ways a step may be refused. -/
inductive Refusal where
  /-- Raised by `exec`'s arm for an instruction that has no meaning yet: safe. No arm raises it: every row of the table
  has its meaning. -/
  | notModelled (mnemonic : String)
  deriving DecidableEq, Repr

/-- `ResetState` for the parameters `cfg`, with `inputs` to come: every register at its reset value (R250). -/
def State.initial (cfg : Config) (inputs : List Ports) : State where
  state := .zero
  idx := cfg.initPkt.idx
  packetType := cfg.initPkt.packetType
  address := cfg.initPkt.address
  data := cfg.initPkt.data
  checksum1 := cfg.initPkt.checksum1
  checksum0 := cfg.initPkt.checksum0
  roll := cfg.initDev.roll
  pitch := cfg.initDev.pitch
  yaw := cfg.initDev.yaw
  rollRate := cfg.initDev.rollRate
  pitchRate := cfg.initDev.pitchRate
  yawRate := cfg.initDev.yawRate
  gyroX := cfg.initDev.gyroX
  gyroY := cfg.initDev.gyroY
  gyroZ := cfg.initDev.gyroZ
  error := cfg.initDev.error
  firmwareString := cfg.initDev.firmwareString
  newFwString := false
  frameDone := false
  frameOk := false
  inputs := inputs
  config := cfg

/-- The machine right after reset, with the reference parameters and nothing on its inputs (R250; log entries 1, 3, 5). -/
def State.reset : State := State.initial Config.reference []

end Sys2Proof.Machine
end

