-- ==== Sys2Proof/Machine/Ops.lean ====
section
/-! DEFINITION. The named operations over the payload buffer and the registers: reading and writing a byte (00_scope.md R7, 20_memory.md R60 to R67), the next parser state, the report, the failures' effects (60_exceptions.md R220 to R223), the ports of a step. -/

namespace Sys2Proof.Machine

/-- The three outcomes of a step of this machine. -/
abbrev Outcome := Host.Outcome State Fault Refusal

/-! ## The payload buffer -/

/-- What a buffer index that the list does not name reads as (DESIGN CHOICE, log entry 6). -/
def Memory.unlisted : Byte := 0x00#8

/-- The byte at index `a`. -/
def Memory.read : List Host.Cell → Nat → Byte
  | [], _ => Memory.unlisted
  | (k, v) :: m, a => if k = a then v else Memory.read m a

/-- `data[a] <- b`, keeping the canonical form. -/
def Memory.write : List Host.Cell → Nat → Byte → List Host.Cell
  | [], a, b => if b = Memory.unlisted then [] else [(a, b)]
  | (k, v) :: m, a, b =>
    if a < k then
      if b = Memory.unlisted then (k, v) :: m else (a, b) :: (k, v) :: m
    else if a = k then
      if b = Memory.unlisted then m else (a, b) :: m
    else (k, v) :: Memory.write m a b

/-- The canonical form, for indices from `lo` on: strictly rising, inside the buffer, no entry equal to what an unlisted
index reads as. -/
def Memory.wfFrom (lo : Nat) : List Host.Cell → Bool
  | [] => true
  | (k, v) :: m => decide (lo ≤ k) && decide (k < dataCap) && decide (v ≠ Memory.unlisted) && Memory.wfFrom (k + 1) m

/-- The canonical form of a buffer. -/
def Memory.wf (m : List Host.Cell) : Bool := Memory.wfFrom 0 m

/-- `data[i]` (R7). -/
def State.readData (s : State) (i : Nat) : Byte := Memory.read s.data i

/-- `MemRead(i, n)`: the bytes `data[i], ..., data[i+n-1]` in that order (R7). -/
def State.memRead (s : State) (i n : Nat) : List Byte := (List.range n).map fun k => s.readData (i + k)

/-- `MemWrite(i, 1, c)`: the only write of the buffer, at the 6-bit index of R21 (R7, R65). -/
def State.memWrite (s : State) (i : BitVec 6) (c : Byte) : State := { s with data := Memory.write s.data i.toNat c }

/-- A payload byte: stored at `idx`, and `idx <- idx + 1` (R150). -/
def State.storePayload (s : State) (c : Byte) : State := { s.memWrite s.idx c with idx := s.idx + 1#6 }

/-! ## The other Packet registers -/

/-- `packet_type <- c` (R22). -/
def State.setPacketType (s : State) (c : Byte) : State := { s with packetType := c }

/-- `address <- c; idx <- 0` (R136). -/
def State.startPayload (s : State) (c : Byte) : State := { s with address := c, idx := 0#6 }

/-- `checksum1 <- c` (R26). -/
def State.setChecksum1 (s : State) (c : Byte) : State := { s with checksum1 := c }

/-- `checksum0 <- c` (R26). -/
def State.setChecksum0 (s : State) (c : Byte) : State := { s with checksum0 := c }

/-! ## Parser state and report -/

/-- `state <- st`, the control-transfer primitive (R7). -/
def State.goto (s : State) (st : ParserState) : State := { s with state := st }

/-- The step's outputs (R41). -/
def State.output (s : State) (done ok : Bool) : State := { s with frameDone := done, frameOk := ok }

/-- `frame_done = 0`, `frame_ok = 0`. -/
def State.noReport (s : State) : State := s.output false false

/-- `report Accept` (R7). -/
def State.reportAccept (s : State) : State := s.output true true

/-- `report Reject` (R7). -/
def State.reportReject (s : State) : State := s.output true false

/-! ## Failures: the block's exceptions (60_exceptions.md section 1)

Nothing is saved, nothing vectors and no mode changes (R231); there is no return instruction and nothing to restore
(R232): the next byte is decoded in `ZERO`. -/

/-- The three failure classes; labels only, no register holds one (R220). -/
inductive FailureClass where
  | syncMiss | checksumMismatch | unknownAddress
  deriving DecidableEq, Repr

/-- The effect of a failure (R221, R222, R223). A sync mismatch returns to `ZERO` silently; a checksum mismatch reports
`Reject` and returns to `ZERO`; an unrecognised address has no effect of its own. -/
def State.takeFailure (s : State) : FailureClass → State
  | .syncMiss => (s.goto .zero).noReport
  | .checksumMismatch => (s.goto .zero).reportReject
  | .unknownAddress => s

/-! ## Device State registers -/

/-- `firmware_string[i]`: bytes 0 to 3 are registers, byte 4 is hardwired 0x00 (R34; log entry 8). -/
def State.readFirmware (s : State) (i : Fin 5) : Byte := if h : i.val < 4 then s.firmwareString[i.val] else 0x00#8

/-- `firmware_string[0..3] <- b0 b1 b2 b3`; byte 4 is never written (R34). -/
def State.writeFirmware (s : State) (b0 b1 b2 b3 : Byte) : State := { s with firmwareString := #v[b0, b1, b2, b3] }

/-- `new_fw_string <- v` (R35). -/
def State.setNewFw (s : State) (v : Bool) : State := { s with newFwString := v }

/-! ## The ports of a step -/

/-- The input ports as this step samples them (R40): the oldest entry of the inputs, all 0 when there is none. -/
def State.sampledPorts (s : State) : Ports := s.inputs.headD .quiet

/-- The start of a step: its ports are taken from the inputs and its outputs begin at 0 (R229). -/
def State.beginStep (s : State) : State := ({ s with inputs := s.inputs.tail }).noReport

end Sys2Proof.Machine
end

