-- ==== Sys2Proof/Machine/Operands.lean ====
section
/-! DEFINITION. Operand assembly: the byte orders of 20_memory.md R61 to R63 and the operands of the Field Decoder (30_encoding.md R94, 44_field_decode.md R185, R183, R188). -/

namespace Sys2Proof.Machine

/-- `be16(b0, b1) = (b0 << 8) | b1` (R7). -/
def be16 (b0 b1 : Byte) : Half := b0 ++ b1

/-- `be32(b0, b1, b2, b3) = (b0 << 24) | (b1 << 16) | (b2 << 8) | b3` (R7). -/
def be32 (b0 b1 b2 b3 : Byte) : Word := b0 ++ b1 ++ b2 ++ b3

/-- `le32(b0, b1, b2, b3) = (b3 << 24) | (b2 << 16) | (b1 << 8) | b0` (R7). -/
def le32 (b0 b1 b2 b3 : Byte) : Word := b3 ++ b2 ++ b1 ++ b0

/-- `sext_16(v)`: the signed integer with the same 16 bits (R7). -/
def sext16 (v : Half) : Int := if v.toNat < 32768 then v.toNat else (v.toNat : Int) - 65536

/-- The 16 bits of the Euler raw value at index `i`; `sext16` of them is `raw(i)` (R185). -/
def State.eulerRaw (s : State) (i : Nat) : Half := be16 (s.readData i) (s.readData (i + 1))

/-- `pat(i)`: the gyro pattern whose lowest byte is at index `i` (R188). -/
def State.gyroPattern (s : State) (i : Nat) : Word :=
  le32 (s.readData i) (s.readData (i + 1)) (s.readData (i + 2)) (s.readData (i + 3))

/-- The health word of the payload's first four bytes (R183). -/
def State.healthWord (s : State) : Word := be32 (s.readData 0) (s.readData 1) (s.readData 2) (s.readData 3)

end Sys2Proof.Machine
end

