-- ==== Sys2Proof/Machine/Binary32.lean ====
section
/-! DEFINITION. The `FP` format, IEEE-754 binary32 (00_scope.md R5, 44_field_decode.md R189), and `EulerScaleFn` (R186): its reference definition, the parameter's deviations from it, and the source's tolerance. -/

namespace Sys2Proof.Machine

/-! ## A binary32 pattern read as a number (R189; the layout is from general knowledge, as the spec marks it) -/

/-- Bit 31: the sign. -/
def binary32Sign (w : Word) : Bool := w.getLsbD 31

/-- Bits 30:23: the biased exponent. -/
def binary32Exponent (w : Word) : Nat := (w.extractLsb' 23 8).toNat

/-- Bits 22:0: the fraction. -/
def binary32Fraction (w : Word) : Nat := (w.extractLsb' 0 23).toNat

/-- The value of a finite pattern in units of `2^-149`, of which every finite binary32 number is a whole multiple; none
for an infinity or a NaN. -/
def binary32Units (w : Word) : Option Int :=
  if binary32Exponent w = 255 then none
  else
    let magnitude : Nat :=
      if binary32Exponent w = 0 then binary32Fraction w
      else (2 ^ 23 + binary32Fraction w) * 2 ^ (binary32Exponent w - 1)
    some (if binary32Sign w then -(magnitude : Int) else magnitude)

/-! ## Rounding a rational to binary32 -/

/-- The integer nearest to `n / d`, ties to even. -/
def nearestEven (n d : Nat) : Nat :=
  if 2 * (n % d) < d ∨ (2 * (n % d) = d ∧ n / d % 2 = 0) then n / d else n / d + 1

/-- The pattern of the binary32 value nearest to `n / d`, ties to even, with the sign given; 0x00000000 for zero. With
`t` the whole units of `2^-149` in `n / d`, the value's last place weighs `2^u` of them, `u` being 0 below `2^24` and
`log2 t - 23` from there on; `u * 2^23` added to the rounded count of last places is the pattern, its carry included. -/
def binary32OfRatio (neg : Bool) (n d : Nat) : Word :=
  if n = 0 then 0x00000000#32
  else
    let t := n * 2 ^ 149 / d
    let u := if t < 2 ^ 24 then 0 else t.log2 - 23
    let magnitude := min (u * 2 ^ 23 + nearestEven (n * 2 ^ 149) (d * 2 ^ u)) 0x7F800000
    BitVec.ofNat 32 (if neg then 0x80000000 + magnitude else magnitude)

/-! ## EulerScaleFn -/

/-- The reference `EulerScaleFn`: the binary32 value nearest, ties to even, to the exact rational
`q(raw) = raw * 100000 / 9102222` (R186, D11). -/
def eulerReference (raw : Half) : Word :=
  binary32OfRatio (decide (sext16 raw < 0)) ((sext16 raw).natAbs * eulerScaleDen) eulerScaleNum

/-- The value `table` gives for `raw`, if it lists one. -/
def eulerDeviation : List (Half × Word) → Half → Option Word
  | [], _ => none
  | (r, w) :: table, raw => if r = raw then some w else eulerDeviation table raw

/-- `EulerScaleFn(raw)` for the parameters `cfg`: a function of `raw` alone (R186; log entry 7). -/
def eulerScale (cfg : Config) (raw : Half) : Word := (eulerDeviation cfg.eulerTable raw).getD (eulerReference raw)

/-- The source's constraint on a value of `EulerScaleFn`: the pattern `w` is finite and its value is within 0.001 of
`q(raw)` (R186), multiplied out to integers. -/
def withinTolerance (raw : Half) (w : Word) : Bool :=
  match binary32Units w with
  | none => false
  | some v =>
    decide (((v * eulerScaleNum - sext16 raw * eulerScaleDen * 2 ^ 149).natAbs : Int) * 1000 ≤ eulerScaleNum * 2 ^ 149)

end Sys2Proof.Machine
end

