-- ==== Sys2Proof/Machine/Flags.lean ====
section
/-! DEFINITION. The derived values the rules test: the length of the current payload, the checksum function and the validity predicate (43_checksum_bytes.md R162, R163), and the named bits of `error` (10_state.md R33). -/

namespace Sys2Proof.Machine

/-- `data_length` of the current Packet (R27, R133). -/
def State.length (s : State) : Nat := dataLength s.packetType

/-- The sum of the first `n` buffer bytes, as unsigned values. -/
def payloadSum (m : List Host.Cell) : Nat → Nat
  | 0 => 0
  | n + 1 => payloadSum m n + (Memory.read m n).toNat

/-- `computed_checksum(pt, addr, data)`: the sum mod 65536 of the sync characters, the type, the address and the first
`data_length(pt)` buffer bytes (R162). -/
def computedChecksum (pt a : Byte) (m : List Host.Cell) : Half :=
  BitVec.ofNat 16 (syncSum + pt.toNat + a.toNat + payloadSum m (dataLength pt))

/-- The checksum of the Packet registers as they stand (R27). -/
def State.checksum (s : State) : Half := computedChecksum s.packetType s.address s.data

/-- `rx_checksum = (checksum1 << 8) | checksum0` (R26). -/
def State.rxChecksum (s : State) : Half := be16 s.checksum1 s.checksum0

/-- `packet_valid` (R163). -/
def State.packetValid (s : State) : Bool := s.rxChecksum == s.checksum

/-! ## The fields of `error` (R33) -/

/-- Bit 8: serial overflow. -/
def serialOverflow (e : Word) : Bool := e.getLsbD 8

/-- Bit 5: magnetometer anomaly. -/
def magnetometerAnomaly (e : Word) : Bool := e.getLsbD 5

/-- Bit 4: acceleration anomaly. -/
def accelerationAnomaly (e : Word) : Bool := e.getLsbD 4

/-- Bit 3: accelerometer init failure. -/
def accelerometerInitFailure (e : Word) : Bool := e.getLsbD 3

/-- Bit 2: gyroscope init failure. -/
def gyroscopeInitFailure (e : Word) : Bool := e.getLsbD 2

/-- Bit 1: magnetometer init failure. -/
def magnetometerInitFailure (e : Word) : Bool := e.getLsbD 1

end Sys2Proof.Machine
end

