-- ==== Sys2Proof/Machine/FieldDecode.lean ====
section
/-! DEFINITION. Family 44, the Field Decoder (44_field_decode.md): what an accepted frame writes into the Device State. Each operation reads `packet_type` (for the length) and `data`, and writes Device State registers only (R180, R195). -/

namespace Sys2Proof.Machine

/-- `DEC.FW` (R181): the first four payload bytes, unchanged, and the dirty flag. -/
def State.decodeFw (s : State) : State :=
  (s.writeFirmware (s.readData 0) (s.readData 1) (s.readData 2) (s.readData 3)).setNewFw true

/-- `DEC.HEALTH` (R183): all 32 bits at once. -/
def State.decodeHealth (s : State) : State := { s with error := s.healthWord }

/-- `DEC.EULER` (R185): six scaled signed values, the last four only when the payload is long enough. -/
def State.decodeEuler (s : State) : State :=
  { s with
    roll := eulerScale s.config (s.eulerRaw 0)
    pitch := eulerScale s.config (s.eulerRaw 2)
    yaw := if s.length > 4 then eulerScale s.config (s.eulerRaw 4) else s.yaw
    rollRate := if s.length > 8 then eulerScale s.config (s.eulerRaw 8) else s.rollRate
    pitchRate := if s.length > 8 then eulerScale s.config (s.eulerRaw 10) else s.pitchRate
    yawRate := if s.length > 12 then eulerScale s.config (s.eulerRaw 12) else s.yawRate }

/-- `DEC.GYRO` (R188): up to three little-endian patterns, stored as they are. -/
def State.decodeGyro (s : State) : State :=
  { s with
    gyroX := s.gyroPattern 0
    gyroY := if s.length > 4 then s.gyroPattern 4 else s.gyroY
    gyroZ := if s.length > 8 then s.gyroPattern 8 else s.gyroZ }

/-- `DEC.NOP` (R190): an unrecognised address, no effect (R223). -/
def State.decodeNop (s : State) : State := s.takeFailure .unknownAddress

/-- `FieldDecode()` (R180): the operation the `address` register selects (R92). -/
def State.fieldDecode (s : State) : State :=
  match selectField s.config s.address with
  | .fw => s.decodeFw
  | .health => s.decodeHealth
  | .euler => s.decodeEuler
  | .gyro => s.decodeGyro
  | .nop => s.decodeNop

/-- `DEC.FW` as an instruction. -/
def execDecFw (s : State) : Outcome := .next s.decodeFw

/-- `DEC.HEALTH` as an instruction. -/
def execDecHealth (s : State) : Outcome := .next s.decodeHealth

/-- `DEC.EULER` as an instruction. -/
def execDecEuler (s : State) : Outcome := .next s.decodeEuler

/-- `DEC.GYRO` as an instruction. -/
def execDecGyro (s : State) : Outcome := .next s.decodeGyro

/-- `DEC.NOP` as an instruction. -/
def execDecNop (s : State) : Outcome := .next s.decodeNop

end Sys2Proof.Machine
end

