-- ==== Sys2Proof/Machine/Checksum.lean ====
section
/-! DEFINITION. Family 43, the checksum bytes and the terminal action (43_checksum_bytes.md). -/

namespace Sys2Proof.Machine

/-- `CKH` (R160): `checksum1 <- c; state <- CHECK_LOW`. -/
def execCkh (c : Byte) (s : State) : Outcome := .next ((s.setChecksum1 c).goto .checkLow).noReport

/-- `CKL` (R161): `checksum0 <- c`; a frame whose transmitted checksum equals the computed one is decoded and reported
`Accept`, any other is a checksum mismatch (R222); either way `state <- ZERO`. -/
def execCkl (c : Byte) (s : State) : Outcome :=
  if be16 s.checksum1 c = s.checksum then .next ((s.setChecksum0 c).fieldDecode.goto .zero).reportAccept
  else .next ((s.setChecksum0 c).takeFailure .checksumMismatch)

end Sys2Proof.Machine
end

