-- ==== Sys2Proof/Machine/Header.lean ====
section
/-! DEFINITION. Family 41, the header bytes (41_header_bytes.md): the packet type and the register address. -/

namespace Sys2Proof.Machine

/-- What every type byte does: `packet_type <- c; state <- TYPE` (R130 to R132). -/
def State.recordType (s : State) (c : Byte) : State := ((s.setPacketType c).goto .type).noReport

/-- `PT.NODATA` (R130). -/
def execPtNodata (b : Bool) (n : BitVec 4) (h f : Bool) (s : State) : Outcome :=
  .next (s.recordType (typeByte false b n h f))

/-- `PT.SINGLE` (R131). -/
def execPtSingle (n : BitVec 4) (h f : Bool) (s : State) : Outcome := .next (s.recordType (typeByte true false n h f))

/-- `PT.BATCH` (R132). -/
def execPtBatch (n : BitVec 4) (h f : Bool) (s : State) : Outcome := .next (s.recordType (typeByte true true n h f))

/-- `ADDR` (R136): `address <- c; idx <- 0`, then to `CHECK_HIGH` when the frame has no payload, else to `PAYLOAD`. -/
def execAddr (c : Byte) (s : State) : Outcome :=
  .next ((s.startPayload c).goto (if s.length = 0 then .checkHigh else .payload)).noReport

end Sys2Proof.Machine
end

