-- ==== Sys2Proof/Machine/Payload.lean ====
section
/-! DEFINITION. Family 42, the payload bytes (42_payload_bytes.md). -/

namespace Sys2Proof.Machine

/-- `PL` (R150): `data[idx] <- c; idx <- idx + 1`, then to `CHECK_HIGH` when the new index is `data_length`, else to
`PAYLOAD`. The index is compared as a number; the register keeps its 6 bits (log entry 10). -/
def execPl (c : Byte) (s : State) : Outcome :=
  .next ((s.storePayload c).goto (if s.idx.toNat + 1 = s.length then .checkHigh else .payload)).noReport

end Sys2Proof.Machine
end

