-- ==== Sys2Proof/Machine/Sync.lean ====
section
/-! DEFINITION. Family 40, the synchronisation bytes (40_sync_bytes.md): six rules that write `state` and nothing else. -/

namespace Sys2Proof.Machine

/-- `Z.S` (R120): `state <- SYNC_S`. -/
def execZS (s : State) : Outcome := .next (s.goto .syncS).noReport

/-- `Z.SKIP` (R121): `state <- ZERO`; the byte is discarded. It is a sync mismatch in its mildest form (R221). -/
def execZSkip (_c : Byte) (s : State) : Outcome := .next (s.takeFailure .syncMiss)

/-- `S.N` (R122): `state <- SYNC_SN`. -/
def execSN (s : State) : Outcome := .next (s.goto .syncSn).noReport

/-- `S.MISS` (R123): a sync mismatch; the byte is consumed and not examined again. -/
def execSMiss (_c : Byte) (s : State) : Outcome := .next (s.takeFailure .syncMiss)

/-- `SN.P` (R124): `state <- SYNC_SNP`. -/
def execSnP (s : State) : Outcome := .next (s.goto .syncSnp).noReport

/-- `SN.MISS` (R125): a sync mismatch; the byte is consumed and not examined again. -/
def execSnMiss (_c : Byte) (s : State) : Outcome := .next (s.takeFailure .syncMiss)

end Sys2Proof.Machine
end

