-- ==== Sys2Proof/Machine/Command.lean ====
section
/-! DEFINITION. Family 45, the command frame (45_command_frames.md): the table's one byte sequence, and with it the byte rule a consumed byte selects. -/

namespace Sys2Proof.Machine

/-- The four commands (R211). -/
inductive CommandName where
  | getFirmware | zeroGyros | resetFilter | setMagReference
  deriving DecidableEq, Repr

/-- The fixed single-byte constant of each command, a parameter (R5, R211). -/
def commandCode (cfg : Config) : CommandName → Byte
  | .getFirmware => cfg.addrCmdGetFw
  | .zeroGyros => cfg.addrCmdZeroGyros
  | .resetFilter => cfg.addrCmdResetFilter
  | .setMagReference => cfg.addrCmdSetMagRef

/-- The Command Encoder's output for a command (R210, R213). -/
def commandBytes (cfg : Config) (n : CommandName) : List Byte := commandFrame (commandCode cfg n)

/-- The byte arm of a step: execute the rule selected by (`state`, `c`) (R229, R91). -/
def consumeByte (c : Byte) (s : State) : Outcome :=
  match classify s.state c with
  | .zS => execZS s
  | .zSkip => execZSkip c s
  | .sN => execSN s
  | .sMiss => execSMiss c s
  | .snP => execSnP s
  | .snMiss => execSnMiss c s
  | .ptNodata => execPtNodata (isBatch c) (batchLength c) (isHidden c) (commandFailed c) s
  | .ptSingle => execPtSingle (batchLength c) (isHidden c) (commandFailed c) s
  | .ptBatch => execPtBatch (batchLength c) (isHidden c) (commandFailed c) s
  | .addr => execAddr c s
  | .pl => execPl c s
  | .ckh => execCkh c s
  | .ckl => execCkl c s

/-- The bytes of a sequence, consumed one after another. -/
def consumeBytes : List Byte → State → Outcome
  | [], s => .next s
  | c :: bytes, s =>
    match consumeByte c s with
    | .next t => consumeBytes bytes t
    | .fault f => .fault f
    | .refused r => .refused r

/-- `CMD(addr)` (R210, R212): the seven bytes of the command frame consumed from the state the parser is in. From `ZERO`
they execute `Z.S S.N SN.P PT.NODATA ADDR CKH CKL`. A sequence of the table, not one step (log entry 12). -/
def execCmd (a : Byte) (s : State) : Outcome := consumeBytes (commandFrame a) s

end Sys2Proof.Machine
end

