-- ==== Sys2Proof/Machine/PortEvents.lean ====
section
/-! DEFINITION. Families 60 and 70, the port events (60_exceptions.md section 2, 70_reset_and_hazards.md R250). -/

namespace Sys2Proof.Machine

/-- `RESET` (R250): every register takes its reset value, both outputs are 0. The inputs to come and the parameters are
no registers and stay. -/
def execReset (s : State) : Outcome := .next (State.initial s.config s.inputs)

/-- `FWCONSUME` (R228): `new_fw_string <- 0`. -/
def execFwConsume (s : State) : Outcome := .next (s.setNewFw false)

/-- `RESYNC` (R226): `state <- ZERO`, everything else unchanged, no report. -/
def execResync (s : State) : Outcome := .next (s.goto .zero).noReport

/-- `IDLE` (R227): nothing changes, no report. -/
def execIdle (s : State) : Outcome := .next s.noReport

end Sys2Proof.Machine
end

