-- ==== Sys2Proof/Machine/Dispatch.lean ====
section
/-! DEFINITION. One arm per constructor of Instr. -/

namespace Sys2Proof.Machine

def exec (i : Instr) (s : State) : Host.Outcome State Fault Refusal :=
  match i with
  -- 40_sync_bytes.md
  | .zS => Sys2Proof.Machine.execZS s
  | .zSkip c => Sys2Proof.Machine.execZSkip c s
  | .sN => Sys2Proof.Machine.execSN s
  | .sMiss c => Sys2Proof.Machine.execSMiss c s
  | .snP => Sys2Proof.Machine.execSnP s
  | .snMiss c => Sys2Proof.Machine.execSnMiss c s
  -- 41_header_bytes.md
  | .ptNodata b n h f => Sys2Proof.Machine.execPtNodata b n h f s
  | .ptSingle n h f => Sys2Proof.Machine.execPtSingle n h f s
  | .ptBatch n h f => Sys2Proof.Machine.execPtBatch n h f s
  | .addr c => Sys2Proof.Machine.execAddr c s
  -- 42_payload_bytes.md
  | .pl c => Sys2Proof.Machine.execPl c s
  -- 43_checksum_bytes.md
  | .ckh c => Sys2Proof.Machine.execCkh c s
  | .ckl c => Sys2Proof.Machine.execCkl c s
  -- 44_field_decode.md
  | .decFw => Sys2Proof.Machine.execDecFw s
  | .decHealth => Sys2Proof.Machine.execDecHealth s
  | .decEuler => Sys2Proof.Machine.execDecEuler s
  | .decGyro => Sys2Proof.Machine.execDecGyro s
  | .decNop => Sys2Proof.Machine.execDecNop s
  -- 60_exceptions.md and 70_reset_and_hazards.md
  | .reset => Sys2Proof.Machine.execReset s
  | .fwConsume => Sys2Proof.Machine.execFwConsume s
  | .resync => Sys2Proof.Machine.execResync s
  | .idle => Sys2Proof.Machine.execIdle s
  -- 45_command_frames.md
  | .cmd a => Sys2Proof.Machine.execCmd a s

end Sys2Proof.Machine
end

