-- ==== Sys2Proof/Machine/Schedule.lean ====
section
/-! DEFINITION. What step adds around exec: the events one step runs (60_exceptions.md R229), and the state a table word runs from. -/

namespace Sys2Proof.Machine

/-- The instructions of a list, executed in order. -/
def execAll : List Instr → State → Outcome
  | [], s => .next s
  | i :: is, s =>
    match exec i s with
    | .next t => execAll is t
    | .fault f => .fault f
    | .refused r => .refused r

/-- One step: the ports are sampled, the outputs begin at 0, and the events the ports and the parser state select are
executed (R229). -/
def oneStep (s : State) : Outcome := execAll (selectEvents s.state s.sampledPorts) s.beginStep

/-- `s` with a table word on its inputs, and the parser in the state that decodes it. -/
def State.withTableWord (s : State) (nbits w : Nat) : State :=
  { s with state := (tableParserState nbits w).getD s.state, inputs := tablePorts nbits w ++ s.inputs }

end Sys2Proof.Machine
end

