-- ==== Sys2Proof/Machine/Step.lean ====
section
/-! DEFINITION. The step function (60_exceptions.md R229) and the placing of a table word where the next step takes it. -/

namespace Sys2Proof.Machine

/-- One application of the block's transition function: `Step(state, inputs)` of R229, on the inputs the state holds. -/
def step (s : State) : Host.Outcome State Fault Refusal := oneStep s

/-- `s` with the table word `w` as the next input (log entries 11 and 13): the byte comes first on the inputs and the
parser is in the state that decodes it, so that the very next step runs exactly that instruction. -/
def State.withFetchWord (s : State) (nbits w : Nat) : State := s.withTableWord nbits w

end Sys2Proof.Machine
end

