-- ==== Sys2Proof/Machine/Consumer.lean ====
section
/-! DEFINITION. What the consumer can read at a step boundary (10_state.md R42): every Packet register, every derived value, every Device State register, and the report of the step; not `state` and not `idx`. -/

namespace Sys2Proof.Machine

/-- The readable registers and outputs (R23, R26, R27, R30 to R35, R41, R42). -/
structure Readout where
  packetType : Byte
  address : Byte
  data : List Byte
  checksum1 : Byte
  checksum0 : Byte
  hasData : Bool
  isBatch : Bool
  batchLength : BitVec 4
  isHidden : Bool
  commandFailed : Bool
  dataLength : Nat
  rxChecksum : Half
  computedChecksum : Half
  packetValid : Bool
  roll : Word
  pitch : Word
  yaw : Word
  rollRate : Word
  pitchRate : Word
  yawRate : Word
  gyroX : Word
  gyroY : Word
  gyroZ : Word
  error : Word
  firmwareString : List Byte
  newFwString : Bool
  frameDone : Bool
  frameOk : Bool
  deriving DecidableEq, Repr

/-- A consumer's read: the values at the end of the last completed step, with no side effect (R42, R71). -/
def State.readout (s : State) : Readout where
  packetType := s.packetType
  address := s.address
  data := s.memRead 0 dataCap
  checksum1 := s.checksum1
  checksum0 := s.checksum0
  hasData := Sys2Proof.hasData s.packetType
  isBatch := Sys2Proof.isBatch s.packetType
  batchLength := Sys2Proof.batchLength s.packetType
  isHidden := Sys2Proof.isHidden s.packetType
  commandFailed := Sys2Proof.commandFailed s.packetType
  dataLength := s.length
  rxChecksum := s.rxChecksum
  computedChecksum := s.checksum
  packetValid := s.packetValid
  roll := s.roll
  pitch := s.pitch
  yaw := s.yaw
  rollRate := s.rollRate
  pitchRate := s.pitchRate
  yawRate := s.yawRate
  gyroX := s.gyroX
  gyroY := s.gyroY
  gyroZ := s.gyroZ
  error := s.error
  firmwareString := [s.readFirmware 0, s.readFirmware 1, s.readFirmware 2, s.readFirmware 3, s.readFirmware 4]
  newFwString := s.newFwString
  frameDone := s.frameDone
  frameOk := s.frameOk

end Sys2Proof.Machine
end

