-- ==== Sys2Proof/Machine/Stream.lean ====
section
/-! DEFINITION. Composites of steps: a byte stream fed to the block, the reports it makes, the software call "parse next packet" (60_exceptions.md R233), and the labels of the failure classes (R220). -/

namespace Sys2Proof.Machine

/-- One step that presents the byte `c` and asks for nothing. -/
def stepByte (c : Byte) (s : State) : Outcome := step { s with inputs := [.ofByte c] }

/-- The steps that present the bytes of a stream, one a step (R253). -/
def feed : List Byte → State → Outcome
  | [], s => .next s
  | c :: bytes, s =>
    match stepByte c s with
    | .next t => feed bytes t
    | .fault f => .fault f
    | .refused r => .refused r

/-- The reports the steps of a stream make, in order: `frame_ok` of each step with `frame_done = 1`. -/
def reports : List Byte → State → List Bool
  | [], _ => []
  | c :: bytes, s =>
    match stepByte c s with
    | .next t => if t.frameDone then t.frameOk :: reports bytes t else reports bytes t
    | .fault _ => []
    | .refused _ => []

/-- `ParseNext(σ, stream)` (R233): steps until a report, then the state, `frame_ok` and the rest of the stream; none while
the call still waits for a byte. -/
def parseNext : State → List Byte → Option (State × Bool × List Byte)
  | _, [] => none
  | s, c :: bytes =>
    match stepByte c s with
    | .next t => if t.frameDone then some (t, t.frameOk, bytes) else parseNext t bytes
    | .fault _ => none
    | .refused _ => none

/-- The failure class an instruction raises in a state, if any (R220 to R223, R230): a label, not state and at no port.
A failure is caused by one consumed byte; the spec gives the sequence `CMD` no label of its own, and the model answers
none for it: its seven bytes carry theirs, the last one's possibly `unknownAddress` (DESIGN CHOICE, log entry 22). -/
def failureClass (i : Instr) (s : State) : Option FailureClass :=
  match i with
  | .zSkip _ | .sMiss _ | .snMiss _ => some .syncMiss
  | .ckl c =>
    if be16 s.checksum1 c ≠ s.checksum then some .checksumMismatch
    else if selectField s.config s.address = .nop then some .unknownAddress
    else none
  | .decNop => some .unknownAddress
  | .zS | .sN | .snP | .ptNodata _ _ _ _ | .ptSingle _ _ _ | .ptBatch _ _ _ | .addr _ | .pl _ | .ckh _ => none
  | .decFw | .decHealth | .decEuler | .decGyro => none
  | .reset | .fwConsume | .resync | .idle | .cmd _ => none

end Sys2Proof.Machine
end

