-- ==== Sys2Proof/Safety.lean ====
section
/-! DEFINITION. The terms the statements use: parameters the spec allows, the invariant of a step boundary (10_state.md R43), and the parts of the state that rules speak of together. -/

namespace Sys2Proof.Machine

/-- Parameters the spec allows: four pairwise distinct addresses (R5), every listed value of `EulerScaleFn` within the
source's tolerance (R186), a buffer content in canonical form. -/
def validConfig (cfg : Config) : Bool :=
  cfg.addressesDistinct && cfg.eulerTable.all (fun e => withinTolerance e.1 e.2) && Memory.wf cfg.initPkt.data

/-- The invariant of a step boundary. The parameters are allowed ones, the buffer is in canonical form, and (R43 (b), R21)
while a payload is received its index is below `data_length`, and once the payload is complete the index equals it. -/
structure StateInv (s : State) : Prop where
  config : validConfig s.config = true
  memory : Memory.wf s.data = true
  payload : s.state = .payload → s.idx.toNat < s.length
  complete : s.state = .checkHigh ∨ s.state = .checkLow → s.idx.toNat = s.length

/-- The Device State registers of R30 to R35. -/
structure DeviceState where
  roll : Word
  pitch : Word
  yaw : Word
  rollRate : Word
  pitchRate : Word
  yawRate : Word
  gyroX : Word
  gyroY : Word
  gyroZ : Word
  error : Word
  firmwareString : Vector Byte 4
  newFwString : Bool
  deriving DecidableEq, Repr

/-- The Device State of a state. -/
def State.device (s : State) : DeviceState where
  roll := s.roll
  pitch := s.pitch
  yaw := s.yaw
  rollRate := s.rollRate
  pitchRate := s.pitchRate
  yawRate := s.yawRate
  gyroX := s.gyroX
  gyroY := s.gyroY
  gyroZ := s.gyroZ
  error := s.error
  firmwareString := s.firmwareString
  newFwString := s.newFwString

/-- In two runs a register went from `old` to `new` and from `old'` to `new'`, and it ended equal in both or was kept in
both. If this holds of every two runs of an operation, the operation keeps the register or writes a value that does not
depend on what it held. -/
def writtenAlike {α : Type} (old old' new new' : α) : Prop := new' = new ∨ (new = old ∧ new' = old')

/-- Whether a step with these ports consumes the byte they present (60_exceptions.md R229): neither `rst` nor `resync` is
asserted and a byte is there. -/
def consumesByte (p : Ports) : Bool := !p.rst && !p.resync && p.byteValid

end Sys2Proof.Machine
end

