-- ==== Sys2Proof/Certificates/Slice0/Obligations.lean ====
section
/-! DEFINITION. The statements for the provers, from the numbered rules of spec/. Where a rule gives a number or a byte, the statement writes it as the spec prints it, not by the model's name for it. -/

open Sys2Proof Sys2Proof.Machine

/-! ## Encoding and decoding -/

/-- A word of each format, written out bit by bit from 30_encoding.md section 4 and 45_command_frames.md section R210,
decodes to its row. The addresses of the format A words are the model's reference set (log entry 3). -/
def Obligations.SpecWordsDecodeToTheirRows : Prop :=
  decode Config.reference (.stream .zero 0b01110011#8) = .ok .zS ∧
  decode Config.reference (.stream .syncS 0b01101110#8) = .ok .sN ∧
  decode Config.reference (.stream .syncS 0b01110011#8) = .ok (.sMiss 0x73#8) ∧
  decode Config.reference (.stream .syncSn 0b01110000#8) = .ok .snP ∧
  decode Config.reference (.stream .syncSnp 0b01111100#8) = .ok (.ptNodata true 15#4 false false) ∧
  decode Config.reference (.stream .syncSnp 0b10001101#8) = .ok (.ptSingle 3#4 false true) ∧
  decode Config.reference (.stream .syncSnp 0b11001110#8) = .ok (.ptBatch 3#4 true false) ∧
  decode Config.reference (.stream .type 0b01110000#8) = .ok (.addr 0x70#8) ∧
  decode Config.reference (.stream .payload 0b00101100#8) = .ok (.pl 0x2C#8) ∧
  decode Config.reference (.stream .checkHigh 0b00000010#8) = .ok (.ckh 0x02#8) ∧
  decode Config.reference (.stream .checkLow 0b11010010#8) = .ok (.ckl 0xD2#8) ∧
  decode Config.reference (.register 0b10101010#8) = .ok .decFw ∧
  decode Config.reference (.register 0b01110001#8) = .ok .decNop ∧
  decode Config.reference (.port ⟨true, false, false, 0x00#8, false⟩) = .ok .reset ∧
  decode Config.reference (.sequence [0x73#8, 0x6E#8, 0x70#8, 0x00#8, 0xAD#8, 0x01#8, 0xFE#8]) = .ok (.cmd 0xAD#8)

/-- R91: which rule a byte selects, by the state and then by the byte; every byte in every state has exactly one rule.
The last clause is "exactly one": the only well-formed instruction encoded as this byte under this state is the one
decoded. -/
def Obligations.EveryByteInEveryStateHasExactlyOneRule : Prop :=
  ∀ (cfg : Config) (st : ParserState) (c : Byte),
    decodeByte st c =
      (match st with
      | .zero => if c = 0x73#8 then .zS else .zSkip c
      | .syncS => if c = 0x6E#8 then .sN else .sMiss c
      | .syncSn => if c = 0x70#8 then .snP else .snMiss c
      | .syncSnp =>
        if c.toNat < 0x80 then .ptNodata (isBatch c) (batchLength c) (isHidden c) (commandFailed c)
        else if c.toNat < 0xC0 then .ptSingle (batchLength c) (isHidden c) (commandFailed c)
        else .ptBatch (batchLength c) (isHidden c) (commandFailed c)
      | .type => .addr c
      | .payload => .pl c
      | .checkHigh => .ckh c
      | .checkLow => .ckl c) ∧
    (decodeByte st c).wellFormed = true ∧
    encode cfg (decodeByte st c) = .stream st c ∧
    ∀ i : Instr, i.wellFormed = true → encode cfg i = .stream st c → i = decodeByte st c

/-- The rule selected is the first row of the opcode map that the byte matches in its state (30_encoding.md section 4). -/
def Obligations.ClassifierTakesTheFirstMatchingRow : Prop :=
  ∀ (st : ParserState) (c : Byte), firstByteRow st c = some (classify st c)

/-- Decode and encode agree: for every choice of pairwise distinct addresses and every well-formed instruction, decoding
its encoding gives it back, operands included. -/
def Obligations.DecodeEncodeRoundTrip : Prop :=
  ∀ (cfg : Config) (i : Instr), cfg.addressesDistinct = true → i.wellFormed = true →
    decode cfg (encode cfg i) = .ok i

/-- The Field Decoder's selection (30_encoding.md section 2): with pairwise distinct addresses, each of the four selects
its operation, whatever the order of the tests, and every other value selects the no-op. -/
def Obligations.AddressSelectsTheDecoder : Prop :=
  ∀ (cfg : Config) (a : Byte), cfg.addressesDistinct = true →
    (selectField cfg a = .fw ↔ a = cfg.addrFw) ∧
    (selectField cfg a = .health ↔ a = cfg.addrHealth) ∧
    (selectField cfg a = .euler ↔ a = cfg.addrEuler) ∧
    (selectField cfg a = .gyro ↔ a = cfg.addrGyro) ∧
    (selectField cfg a = .nop ↔ a ≠ cfg.addrFw ∧ a ≠ cfg.addrHealth ∧ a ≠ cfg.addrEuler ∧ a ≠ cfg.addrGyro)

/-- The type byte's fields (10_state.md section 2, the bit layout of `packet_type`): each accessor reads its own bits, and
the five together are the whole byte. -/
def Obligations.TypeByteFields : Prop :=
  ∀ pt : Byte,
    hasData pt = decide (pt.toNat / 128 = 1) ∧
    isBatch pt = decide (pt.toNat / 64 % 2 = 1) ∧
    (batchLength pt).toNat = pt.toNat / 4 % 16 ∧
    isHidden pt = decide (pt.toNat / 2 % 2 = 1) ∧
    commandFailed pt = decide (pt.toNat % 2 = 1) ∧
    typeByte (hasData pt) (isBatch pt) (batchLength pt) (isHidden pt) (commandFailed pt) = pt

/-- R133: `data_length` as a function of the type byte's value. -/
def Obligations.DataLengthFunction : Prop :=
  ∀ pt : Byte,
    dataLength pt =
      (if pt.toNat / 128 = 0 then 0
      else if pt.toNat / 64 % 2 = 0 then 4
      else 4 * (pt.toNat / 4 % 16)) ∧
    dataLength pt < 128 ∧ dataLength pt ≤ 60

/-- The facts 41_header_bytes.md derives from the function (its second rule of section 1): a multiple of 4, at most 60,
independent of bits 1 and 0, and how many of the 256 type values have each length. -/
def Obligations.DataLengthRangeAndCounts : Prop :=
  (∀ pt : Byte, dataLength pt % 4 = 0 ∧ dataLength pt ≤ 60 ∧ dataLength pt = dataLength (pt &&& 0xFC#8)) ∧
  ((List.range 256).countP fun n => dataLength (BitVec.ofNat 8 n) = 0) = 132 ∧
  ((List.range 256).countP fun n => dataLength (BitVec.ofNat 8 n) = 4) = 68 ∧
  ∀ k, 2 ≤ k → k ≤ 15 → ((List.range 256).countP fun n => dataLength (BitVec.ofNat 8 n) = 4 * k) = 4

/-! ## Synchronisation bytes -/

/-- The sync characters (40_sync_bytes.md): each is decoded in its state and moves the parser one state on, writing nothing
else and reporting nothing, and a byte leaves `ZERO` only if it is 0x73. The last clause is what that file derives from
the decoding of 30_encoding.md section 2: once past `SYNC_SN` no step but one that consumes the low checksum byte, or in
which `resync` or `rst` is asserted, brings the parser back to `ZERO`. -/
def Obligations.SyncCharactersAdvance : Prop :=
  (decodeByte .zero 0x73#8 = .zS ∧ decodeByte .syncS 0x6E#8 = .sN ∧ decodeByte .syncSn 0x70#8 = .snP) ∧
  (∀ s : State,
    exec .zS s = .next { s with state := .syncS, frameDone := false, frameOk := false } ∧
    exec .sN s = .next { s with state := .syncSn, frameDone := false, frameOk := false } ∧
    exec .snP s = .next { s with state := .syncSnp, frameDone := false, frameOk := false }) ∧
  (∀ (s t : State) (c : Byte), s.state = .zero → exec (decodeByte s.state c) s = .next t →
    t.state = if c = 0x73#8 then .syncS else .zero) ∧
  (∀ s t : State,
    s.state ≠ .zero → s.state ≠ .syncS → s.state ≠ .syncSn → step s = .next t → t.state = .zero →
    s.sampledPorts.rst = true ∨ s.sampledPorts.resync = true ∨
      s.state = .checkLow ∧ consumesByte s.sampledPorts = true)

/-- R121, R123, R125: in each sync state every byte but the awaited one is a miss, the byte 0x73 among them in `SYNC_S`
and `SYNC_SN`; a miss returns to `ZERO`, writes nothing else and reports nothing. -/
def Obligations.SyncMismatchesReturnToZero : Prop :=
  (∀ c : Byte, c ≠ 0x73#8 → decodeByte .zero c = .zSkip c) ∧
  (∀ c : Byte, c ≠ 0x6E#8 → decodeByte .syncS c = .sMiss c) ∧
  (∀ c : Byte, c ≠ 0x70#8 → decodeByte .syncSn c = .snMiss c) ∧
  ∀ (s : State) (c : Byte),
    exec (.zSkip c) s = .next { s with state := .zero, frameDone := false, frameOk := false } ∧
    exec (.sMiss c) s = .next { s with state := .zero, frameDone := false, frameOk := false } ∧
    exec (.snMiss c) s = .next { s with state := .zero, frameDone := false, frameOk := false }

/-- What the detector recognises (the last rule of 40_sync_bytes.md, which that file derives): from `ZERO` three bytes
lead to `SYNC_SNP` exactly when they are 73 6E 70, and a mismatching byte is consumed without being examined again. -/
def Obligations.SynchronisationDetector : Prop :=
  ∀ (s : State) (b0 b1 b2 : Byte), s.state = .zero →
    (∃ t, feed [b0, b1, b2] s = .next t ∧
      (t.state = .syncSnp ↔ b0 = 0x73#8 ∧ b1 = 0x6E#8 ∧ b2 = 0x70#8)) ∧
    (b0 = 0x73#8 → b1 ≠ 0x6E#8 → ∃ t, feed [b0, b1] s = .next t ∧ t.state = .zero) ∧
    (b0 = 0x73#8 → b1 = 0x6E#8 → b2 ≠ 0x70#8 → ∃ t, feed [b0, b1, b2] s = .next t ∧ t.state = .zero) ∧
    (b0 ≠ 0x73#8 → ∃ t, feed [b0] s = .next t ∧ t.state = .zero)

/-! ## Header bytes -/

/-- R130, R131, R132: in `SYNC_SNP` the byte selects its row by bits 7 and 6, is recorded unchanged in `packet_type`, and
the parser goes to `TYPE`; nothing else is written; the length that follows is 0, 4 or four times the batch length. -/
def Obligations.TypeByteIsRecorded : Prop :=
  ∀ (s : State) (c : Byte),
    (c.toNat < 0x80 →
      decodeByte .syncSnp c = .ptNodata (isBatch c) (batchLength c) (isHidden c) (commandFailed c) ∧
      exec (.ptNodata (isBatch c) (batchLength c) (isHidden c) (commandFailed c)) s =
        .next { s with packetType := c, state := .type, frameDone := false, frameOk := false } ∧
      hasData c = false ∧ dataLength c = 0) ∧
    (0x80 ≤ c.toNat → c.toNat < 0xC0 →
      decodeByte .syncSnp c = .ptSingle (batchLength c) (isHidden c) (commandFailed c) ∧
      exec (.ptSingle (batchLength c) (isHidden c) (commandFailed c)) s =
        .next { s with packetType := c, state := .type, frameDone := false, frameOk := false } ∧
      hasData c = true ∧ isBatch c = false ∧ dataLength c = 4) ∧
    (0xC0 ≤ c.toNat →
      decodeByte .syncSnp c = .ptBatch (batchLength c) (isHidden c) (commandFailed c) ∧
      exec (.ptBatch (batchLength c) (isHidden c) (commandFailed c)) s =
        .next { s with packetType := c, state := .type, frameDone := false, frameOk := false } ∧
      hasData c = true ∧ isBatch c = true ∧ dataLength c = 4 * (c.toNat / 4 % 16))

/-- The three type-byte instructions for every value of every field, in the layout of 10_state.md section 2: the byte with
these fields is recorded, nothing else but `state` is written. -/
def Obligations.TypeByteInstructionsForEveryField : Prop :=
  ∀ (s : State) (b h f : Bool) (n : BitVec 4),
    (∃ t, exec (.ptNodata b n h f) s = .next t ∧
      t = { s with packetType := t.packetType, state := .type, frameDone := false, frameOk := false } ∧
      t.packetType.toNat = b.toNat * 64 + n.toNat * 4 + h.toNat * 2 + f.toNat) ∧
    (∃ t, exec (.ptSingle n h f) s = .next t ∧
      t = { s with packetType := t.packetType, state := .type, frameDone := false, frameOk := false } ∧
      t.packetType.toNat = 128 + n.toNat * 4 + h.toNat * 2 + f.toNat) ∧
    (∃ t, exec (.ptBatch n h f) s = .next t ∧
      t = { s with packetType := t.packetType, state := .type, frameDone := false, frameOk := false } ∧
      t.packetType.toNat = 128 + 64 + n.toNat * 4 + h.toNat * 2 + f.toNat)

/-- The address byte (41_header_bytes.md section 2): it is recorded unchanged, the index becomes 0, and the parser goes to
`CHECK_HIGH` when the frame has no payload, else to `PAYLOAD` (the spec's decision D5 for the first case). -/
def Obligations.AddressByteIsRecorded : Prop :=
  ∀ (s : State) (c : Byte),
    decodeByte .type c = .addr c ∧
    exec (.addr c) s =
      .next { s with
        address := c, idx := 0#6
        state := if dataLength s.packetType = 0 then .checkHigh else .payload
        frameDone := false, frameOk := false }

/-! ## Payload bytes -/

/-- R150: the payload byte is stored at the index, every other buffer byte stays, the index grows by one, the parser goes to
`CHECK_HIGH` exactly when the new index is `data_length`, and nothing else is written. At a step boundary the index
stored at is 0 to 59 and the new one at most 60. -/
def Obligations.PayloadByteIsStored : Prop :=
  (∀ c : Byte, decodeByte .payload c = .pl c) ∧
  ∀ (s : State) (c : Byte), ∃ t, exec (.pl c) s = .next t ∧
    t = { s with
      data := t.data, idx := s.idx + 1#6
      state := if s.idx.toNat + 1 = dataLength s.packetType then .checkHigh else .payload
      frameDone := false, frameOk := false } ∧
    (Memory.wf s.data = true → ∀ i, t.readData i = if i = s.idx.toNat then c else s.readData i) ∧
    (StateInv s → s.state = .payload → 4 ≤ dataLength s.packetType ∧ s.idx.toNat ≤ 59 ∧ t.idx.toNat = s.idx.toNat + 1)

/-- In every state that meets the invariant, a step without `rst` leaves the buffer bytes 60 to 63 as they are: they exist
and no frame writes them (10_state.md section 2, which derives it). -/
def Obligations.BufferTailIsNeverWritten : Prop :=
  ∀ (s t : State) (i : Nat), StateInv s → s.sampledPorts.rst = false → 60 ≤ i → step s = .next t →
    t.readData i = s.readData i

/-! ## Checksum bytes -/

/-- R160: the high checksum byte is recorded and nothing is compared. -/
def Obligations.HighChecksumByteIsRecorded : Prop :=
  (∀ c : Byte, decodeByte .checkHigh c = .ckh c) ∧
  ∀ (s : State) (c : Byte),
    exec (.ckh c) s = .next { s with checksum1 := c, state := .checkLow, frameDone := false, frameOk := false }

/-- R161: the low checksum byte is recorded; if the two bytes give the computed checksum, the Field Decoder runs the
operation its address selects on the completed Packet and the step reports `Accept`; if not, nothing is decoded and the
step reports `Reject`; the parser goes to `ZERO` either way. -/
def Obligations.LowChecksumByteAcceptsOrRejects : Prop :=
  (∀ c : Byte, decodeByte .checkLow c = .ckl c) ∧
  ∀ (s : State) (c : Byte),
    (s.checksum1.toNat * 256 + c.toNat = (computedChecksum s.packetType s.address s.data).toNat →
      ∃ t, exec (selectField s.config s.address).instr { s with checksum0 := c } = .next t ∧
        exec (.ckl c) s = .next { t with state := .zero, frameDone := true, frameOk := true }) ∧
    (s.checksum1.toNat * 256 + c.toNat ≠ (computedChecksum s.packetType s.address s.data).toNat →
      exec (.ckl c) s =
        .next { s with checksum0 := c, state := .zero, frameDone := true, frameOk := false })

/-- R162: the computed checksum is the sum, mod 65536, of the three sync characters, the type byte, the address byte and
the first `data_length` buffer bytes. -/
def Obligations.ComputedChecksumIsTheSum : Prop :=
  ∀ (pt a : Byte) (m : List Host.Cell),
    (computedChecksum pt a m).toNat =
      (0x73 + 0x6E + 0x70 + pt.toNat + a.toNat +
        ((List.range (dataLength pt)).map fun i => (Memory.read m i).toNat).sum) % 65536

/-- R163: a Packet is valid exactly when `(checksum1 << 8) | checksum0` equals the computed sum. -/
def Obligations.PacketValidity : Prop :=
  ∀ s : State,
    s.packetValid = true ↔
      s.checksum1.toNat * 2 ^ 8 + s.checksum0.toNat = (computedChecksum s.packetType s.address s.data).toNat

/-- The arithmetic facts of 43_checksum_bytes.md section 2 (which derives them): the computed checksum lies in 0x0151 to
0x3F13 and the reduction mod 65536 never changes the sum; so a transmitted checksum outside that range is never valid. -/
def Obligations.ChecksumNeverWraps : Prop :=
  (∀ (pt a : Byte) (m : List Host.Cell),
    (computedChecksum pt a m).toNat = 337 + pt.toNat + a.toNat + payloadSum m (dataLength pt) ∧
    0x0151 ≤ (computedChecksum pt a m).toNat ∧ (computedChecksum pt a m).toNat ≤ 0x3F13) ∧
  ∀ s : State, s.packetValid = true →
    0x0151 ≤ s.checksum1.toNat * 256 + s.checksum0.toNat ∧ s.checksum1.toNat * 256 + s.checksum0.toNat ≤ 0x3F13 ∧
    s.checksum1.toNat ≤ 0x3F

/-- R165: every write the decoder makes to the Device State happens in a step that accepts a valid Packet; apart from that
only reset and the `fw_consume` clear of the dirty flag write it. -/
def Obligations.DeviceStateIsWrittenOnlyByAcceptedFrames : Prop :=
  ∀ s t : State, step s = .next t → s.sampledPorts.rst = false →
    t.device ≠ { s.device with newFwString := if s.sampledPorts.fwConsume = true then false else s.newFwString } →
    s.state = .checkLow ∧ consumesByte s.sampledPorts = true ∧
    t.frameDone = true ∧ t.frameOk = true ∧ t.packetValid = true

/-- R222: the byte that completes a frame with the wrong checksum makes the step report `Reject` and returns the parser to
`ZERO`; the Device State is unchanged and the Packet registers hold the rejected frame. No byte consumed in another state
makes a report, and over all steps, whatever their ports, a step reports a rejection exactly when it consumes a low
checksum byte that does not match. -/
def Obligations.ChecksumMismatchIsReported : Prop :=
  (∀ (s : State) (c : Byte), s.state = .checkLow →
    s.checksum1.toNat * 256 + c.toNat ≠ (computedChecksum s.packetType s.address s.data).toNat →
    ∃ t, exec (decodeByte s.state c) s = .next t ∧ t.frameDone = true ∧ t.frameOk = false ∧ t.state = .zero ∧
      t.device = s.device ∧ t.packetType = s.packetType ∧ t.address = s.address ∧ t.data = s.data ∧
      t.checksum1 = s.checksum1 ∧ t.checksum0 = c ∧ t.packetValid = false ∧ t.inputs = s.inputs) ∧
  (∀ (s t : State) (c : Byte), s.state ≠ .checkLow → exec (decodeByte s.state c) s = .next t → t.frameDone = false) ∧
  ∀ s t : State, step s = .next t →
    (t.frameDone = true ∧ t.frameOk = false ↔
      s.state = .checkLow ∧ consumesByte s.sampledPorts = true ∧
      s.checksum1.toNat * 256 + s.sampledPorts.byteIn.toNat ≠
        (computedChecksum s.packetType s.address s.data).toNat)

/-! ## The Field Decoder -/

/-- R181: the firmware decode copies the first four payload bytes unchanged, sets the dirty flag whatever it was, leaves
the terminator 0x00, and writes nothing else. -/
def Obligations.FirmwareDecode : Prop :=
  ∀ s : State, ∃ t, exec .decFw s = .next t ∧
    t = { s with firmwareString := t.firmwareString, newFwString := true } ∧
    t.readFirmware 0 = s.readData 0 ∧ t.readFirmware 1 = s.readData 1 ∧
    t.readFirmware 2 = s.readData 2 ∧ t.readFirmware 3 = s.readData 3 ∧ t.readFirmware 4 = 0x00#8

/-- R183: the health decode replaces all 32 bits of `error` by the big-endian value of the first four payload bytes, and
writes nothing else. So each named bit of `error` is the payload bit that order puts there (the last clause). -/
def Obligations.HealthDecode : Prop :=
  ∀ s : State, ∃ t, exec .decHealth s = .next t ∧
    t = { s with error := t.error } ∧
    t.error.toNat =
      (s.readData 0).toNat * 2 ^ 24 + (s.readData 1).toNat * 2 ^ 16 + (s.readData 2).toNat * 2 ^ 8 +
        (s.readData 3).toNat ∧
    serialOverflow t.error = (s.readData 2).getLsbD 0 ∧
    magnetometerAnomaly t.error = (s.readData 3).getLsbD 5 ∧
    accelerationAnomaly t.error = (s.readData 3).getLsbD 4 ∧
    accelerometerInitFailure t.error = (s.readData 3).getLsbD 3 ∧
    gyroscopeInitFailure t.error = (s.readData 3).getLsbD 2 ∧
    magnetometerInitFailure t.error = (s.readData 3).getLsbD 1

/-- R185: the Euler decode stores the scaled big-endian signed values of its byte pairs, roll and pitch always, yaw when
`data_length > 4`, the roll and pitch rates when it is over 8, the yaw rate when it is over 12; a register whose
condition is false keeps its value and nothing else is written. The raw value is the signed one: below 32768 the
unsigned value of the two bytes, from there on that less 65536. -/
def Obligations.EulerDecode : Prop :=
  ∀ s : State,
    exec .decEuler s =
      .next { s with
        roll := eulerScale s.config (be16 (s.readData 0) (s.readData 1))
        pitch := eulerScale s.config (be16 (s.readData 2) (s.readData 3))
        yaw := if dataLength s.packetType > 4 then eulerScale s.config (be16 (s.readData 4) (s.readData 5)) else s.yaw
        rollRate :=
          if dataLength s.packetType > 8 then eulerScale s.config (be16 (s.readData 8) (s.readData 9)) else s.rollRate
        pitchRate :=
          if dataLength s.packetType > 8 then eulerScale s.config (be16 (s.readData 10) (s.readData 11))
          else s.pitchRate
        yawRate :=
          if dataLength s.packetType > 12 then eulerScale s.config (be16 (s.readData 12) (s.readData 13))
          else s.yawRate } ∧
    ∀ b0 b1 : Byte,
      (be16 b0 b1).toNat = b0.toNat * 256 + b1.toNat ∧
      sext16 (be16 b0 b1) =
        if b0.toNat < 128 then (b0.toNat * 256 + b1.toNat : Int) else (b0.toNat * 256 + b1.toNat : Int) - 65536

/-- R188: the gyro decode stores the little-endian patterns of its byte groups unchanged, x always, y when
`data_length > 4`, z when it is over 8; a register whose condition is false keeps its value and nothing else is
written. -/
def Obligations.GyroDecode : Prop :=
  ∀ s : State, ∃ t, exec .decGyro s = .next t ∧
    t = { s with gyroX := t.gyroX, gyroY := t.gyroY, gyroZ := t.gyroZ } ∧
    t.gyroX.toNat =
      (s.readData 0).toNat + (s.readData 1).toNat * 2 ^ 8 + (s.readData 2).toNat * 2 ^ 16 +
        (s.readData 3).toNat * 2 ^ 24 ∧
    (if dataLength s.packetType > 4 then
      t.gyroY.toNat =
        (s.readData 4).toNat + (s.readData 5).toNat * 2 ^ 8 + (s.readData 6).toNat * 2 ^ 16 +
          (s.readData 7).toNat * 2 ^ 24
    else t.gyroY = s.gyroY) ∧
    (if dataLength s.packetType > 8 then
      t.gyroZ.toNat =
        (s.readData 8).toNat + (s.readData 9).toNat * 2 ^ 8 + (s.readData 10).toNat * 2 ^ 16 +
          (s.readData 11).toNat * 2 ^ 24
    else t.gyroZ = s.gyroZ)

/-- R190: an unrecognised address is a no-op; the instruction changes nothing, and the step that accepts such a frame still
reports `Accept` and leaves the Device State and the rest of the Packet as they are. -/
def Obligations.UnrecognisedAddressIsANoOp : Prop :=
  (∀ s : State, exec .decNop s = .next s) ∧
  ∀ (s : State) (c : Byte),
    s.address ≠ s.config.addrFw → s.address ≠ s.config.addrHealth →
    s.address ≠ s.config.addrEuler → s.address ≠ s.config.addrGyro →
    s.checksum1.toNat * 256 + c.toNat = (computedChecksum s.packetType s.address s.data).toNat →
    exec (.ckl c) s = .next { s with checksum0 := c, state := .zero, frameDone := true, frameOk := true }

/-- What the decoder never does (the last rule of 44_field_decode.md, which derives it): none of its five operations writes
a Packet register, `state`, `idx` or an output, none clears the dirty flag, and none reads a buffer byte at index 14 or
above or a Device State register. For the reads: with another buffer that agrees below index 14 the result is the same;
and in any two states that agree on the parameters, on `packet_type` and on the buffer below index 14, whatever else they
hold, each Device State register ends equal in both or is kept in both. -/
def Obligations.DecoderWritesOnlyDeviceState : Prop :=
  ∀ (op : FieldOp) (s : State), ∃ t, exec op.instr s = .next t ∧
    t.state = s.state ∧ t.idx = s.idx ∧ t.packetType = s.packetType ∧ t.address = s.address ∧ t.data = s.data ∧
    t.checksum1 = s.checksum1 ∧ t.checksum0 = s.checksum0 ∧ t.frameDone = s.frameDone ∧ t.frameOk = s.frameOk ∧
    t.inputs = s.inputs ∧ t.config = s.config ∧ (s.newFwString = true → t.newFwString = true) ∧
    (∀ m : List Host.Cell, (∀ i < 14, Memory.read m i = s.readData i) →
      ∃ u, exec op.instr { s with data := m } = .next u ∧ u.device = t.device) ∧
    ∀ s' : State, s'.config = s.config → s'.packetType = s.packetType → (∀ i < 14, s'.readData i = s.readData i) →
      ∃ u, exec op.instr s' = .next u ∧
        writtenAlike s.roll s'.roll t.roll u.roll ∧ writtenAlike s.pitch s'.pitch t.pitch u.pitch ∧
        writtenAlike s.yaw s'.yaw t.yaw u.yaw ∧ writtenAlike s.rollRate s'.rollRate t.rollRate u.rollRate ∧
        writtenAlike s.pitchRate s'.pitchRate t.pitchRate u.pitchRate ∧
        writtenAlike s.yawRate s'.yawRate t.yawRate u.yawRate ∧ writtenAlike s.gyroX s'.gyroX t.gyroX u.gyroX ∧
        writtenAlike s.gyroY s'.gyroY t.gyroY u.gyroY ∧ writtenAlike s.gyroZ s'.gyroZ t.gyroZ u.gyroZ ∧
        writtenAlike s.error s'.error t.error u.error ∧
        writtenAlike s.firmwareString s'.firmwareString t.firmwareString u.firmwareString ∧
        writtenAlike s.newFwString s'.newFwString t.newFwString u.newFwString

/-- For a frame with a payload every byte the decoder reads is a byte of that payload (44_field_decode.md section 3, which
derives it): the values written depend on no buffer byte at or above `data_length`. -/
def Obligations.DecoderReadsOnlyTheFramesOwnBytes : Prop :=
  ∀ (op : FieldOp) (s : State) (m : List Host.Cell), 4 ≤ dataLength s.packetType →
    (∀ i < dataLength s.packetType, Memory.read m i = s.readData i) →
    ∃ t u, exec op.instr s = .next t ∧ exec op.instr { s with data := m } = .next u ∧ u.device = t.device

/-- An accepted frame with no payload to a mapped address decodes the bytes the buffer happens to hold
(44_field_decode.md section 3; the spec's decision D16, log entry 20): the write is neither skipped nor a fault. -/
def Obligations.ShortFrameDecodesTheResidue : Prop :=
  ∀ (s : State) (c : Byte), s.config.addressesDistinct = true → dataLength s.packetType = 0 →
    s.checksum1.toNat * 256 + c.toNat = (computedChecksum s.packetType s.address s.data).toNat →
    ∃ t, exec (.ckl c) s = .next t ∧ t.frameDone = true ∧ t.frameOk = true ∧
      (s.address = s.config.addrFw → t.newFwString = true ∧
        t.firmwareString = #v[s.readData 0, s.readData 1, s.readData 2, s.readData 3]) ∧
      (s.address = s.config.addrHealth →
        t.error = be32 (s.readData 0) (s.readData 1) (s.readData 2) (s.readData 3)) ∧
      (s.address = s.config.addrEuler →
        t.device = { s.device with
          roll := eulerScale s.config (be16 (s.readData 0) (s.readData 1))
          pitch := eulerScale s.config (be16 (s.readData 2) (s.readData 3)) }) ∧
      (s.address = s.config.addrGyro →
        t.device = { s.device with
          gyroX := le32 (s.readData 0) (s.readData 1) (s.readData 2) (s.readData 3) })

/-! ## EulerScaleFn -/

/-- The reference `EulerScaleFn` (the spec's decision D11 and the facts 44_field_decode.md derives for it; log entry 7;
the binary32 layout is PRESUMED, log entry 16): for
every raw value it is finite and its value is exactly `raw * 45 / 4096` (both sides in units of `2^-149`), and at 0 it is
+0.0. -/
def Obligations.EulerReferenceIsExact : Prop :=
  eulerReference 0#16 = 0x00000000#32 ∧
  ∀ raw : Half, ∃ v : Int, binary32Units (eulerReference raw) = some v ∧ 4096 * v = sext16 raw * 45 * 2 ^ 149

/-- The source's tolerance (44_field_decode.md section 2): whatever `EulerScaleFn` the parameters hold, as long as they are
allowed ones, its value at every raw value is finite and within 0.001 of `raw * 100000 / 9102222`. It rests on two points
of the model: a pattern is read in the binary32 layout of log entry 16 (PRESUMED), and the function is the reference
definition overridden by a table whose entries the allowed parameters keep within the tolerance (log entry 7, DESIGN
CHOICE). -/
def Obligations.EulerScaleIsWithinTolerance : Prop :=
  ∀ (cfg : Config) (raw : Half), validConfig cfg = true →
    ∃ v : Int, binary32Units (eulerScale cfg raw) = some v ∧
      (v * 9102222 - sext16 raw * 100000 * 2 ^ 149) * 1000 ≤ 9102222 * 2 ^ 149 ∧
      -(9102222 * 2 ^ 149) ≤ (v * 9102222 - sext16 raw * 100000 * 2 ^ 149) * 1000

/-! ## Port events and the step -/

/-- The `RESET` event (70_reset_and_hazards.md section 1): every register takes its reset value, from the parameters
`INIT_PKT` and `INIT_DEV` where the source gives none (decision D15; log entry 5), the dirty flag is 0, the terminator
0x00, the outputs 0; the inputs to come and the parameters stay. -/
def Obligations.ResetSetsEveryRegister : Prop :=
  ∀ s : State, ∃ t, exec .reset s = .next t ∧ t.state = .zero ∧
    t.idx = s.config.initPkt.idx ∧ t.packetType = s.config.initPkt.packetType ∧
    t.address = s.config.initPkt.address ∧ t.data = s.config.initPkt.data ∧
    t.checksum1 = s.config.initPkt.checksum1 ∧ t.checksum0 = s.config.initPkt.checksum0 ∧
    t.device = ⟨s.config.initDev.roll, s.config.initDev.pitch, s.config.initDev.yaw, s.config.initDev.rollRate,
      s.config.initDev.pitchRate, s.config.initDev.yawRate, s.config.initDev.gyroX, s.config.initDev.gyroY,
      s.config.initDev.gyroZ, s.config.initDev.error, s.config.initDev.firmwareString, false⟩ ∧
    t.readFirmware 4 = 0x00#8 ∧ t.frameDone = false ∧ t.frameOk = false ∧
    t.inputs = s.inputs ∧ t.config = s.config

/-- The state after reset (10_state.md sections 1 and 3): the parser is in `ZERO`, the dirty flag is 0 and the terminator
0x00 (the spec's decisions D13, D15), for the model's reset state and for that of every choice of the parameters. -/
def Obligations.StateAfterReset : Prop :=
  State.reset.state = .zero ∧ State.reset.newFwString = false ∧
  exec .reset State.reset = .next State.reset ∧
  ∀ (cfg : Config) (ins : List Ports), (State.initial cfg ins).state = .zero ∧
    (State.initial cfg ins).newFwString = false ∧ (State.initial cfg ins).readFirmware 4 = 0x00#8

/-- `RESYNC` and `FWCONSUME` (60_exceptions.md section 2; the spec's decisions D14, D17): the first returns the parser to
`ZERO` and keeps every other register, the second clears the dirty flag and keeps every other register. -/
def Obligations.AbortAndConsumeEffects : Prop :=
  ∀ s : State,
    exec .resync s = .next { s with state := .zero, frameDone := false, frameOk := false } ∧
    exec .fwConsume s = .next { s with newFwString := false }

/-- R227: a step with no byte and no request changes nothing but for the effect of `fw_consume` if asserted; the outputs
are 0; this is so in every parser state. -/
def Obligations.IdleChangesNothing : Prop :=
  (∀ s : State, exec .idle s = .next { s with frameDone := false, frameOk := false }) ∧
  ∀ s : State, s.sampledPorts.rst = false → s.sampledPorts.resync = false → s.sampledPorts.byteValid = false →
    step s =
      .next { s with
        newFwString := if s.sampledPorts.fwConsume = true then false else s.newFwString
        frameDone := false, frameOk := false
        inputs := s.inputs.tail }

/-- Step selection and priority (60_exceptions.md section 3; the spec's decision D3): `rst` over everything, then
`fw_consume` at the start of the step, then `resync`, over a byte, over nothing. The step takes its ports from the
inputs and begins with both outputs 0; with no inputs left all ports are 0 (log entry 1). -/
def Obligations.StepPriority : Prop :=
  (∀ (s : State) (p : Ports) (ps : List Ports), s.inputs = p :: ps →
    (p.rst = true → step s = exec .reset { s with inputs := ps, frameDone := false, frameOk := false }) ∧
    (p.rst = false → ∀ b : State,
      b = { s with
        inputs := ps, frameDone := false, frameOk := false
        newFwString := if p.fwConsume = true then false else s.newFwString } →
      (p.resync = true → step s = exec .resync b) ∧
      (p.resync = false → p.byteValid = true → step s = exec (decodeByte s.state p.byteIn) b) ∧
      (p.resync = false → p.byteValid = false → step s = exec .idle b))) ∧
  ∀ s : State, s.inputs = [] → step s = .next { s with frameDone := false, frameOk := false }

/-- A step runs the decoded instruction: when the step's ports present a byte and ask for nothing, the step is `exec` of
the instruction that byte decodes to in the parser's state, on the state with the byte taken from the inputs and both
outputs at 0. -/
def Obligations.StepRunsTheDecodedByte : Prop :=
  ∀ (s : State) (c : Byte) (ps : List Ports), s.inputs = Ports.ofByte c :: ps →
    decode s.config (.stream s.state c) = .ok (decodeByte s.state c) ∧
    step s = exec (decodeByte s.state c) { s with inputs := ps, frameDone := false, frameOk := false }

/-- The step is total (60_exceptions.md section 3): in every state, with every input, it answers a next state; no step
faults and none is refused. So does every instruction, for every operand and in every state. -/
def Obligations.StepIsTotal : Prop :=
  (∀ s : State, ∃ t, step s = .next t) ∧ ∀ (i : Instr) (s : State), ∃ t, exec i s = .next t

/-- Set wins over clear (60_exceptions.md section 2; the spec's decision D14): a step that both takes `fw_consume` and
accepts a firmware frame ends with the dirty flag set and the fresh identifier in place. -/
def Obligations.SetWinsOverClear : Prop :=
  ∀ (s : State) (c : Byte), s.state = .checkLow → s.sampledPorts = ⟨false, false, true, c, true⟩ →
    s.address = s.config.addrFw →
    s.checksum1.toNat * 256 + c.toNat = (computedChecksum s.packetType s.address s.data).toNat →
    ∃ t, step s = .next t ∧ t.frameDone = true ∧ t.frameOk = true ∧ t.newFwString = true ∧
      t.firmwareString = #v[s.readData 0, s.readData 1, s.readData 2, s.readData 3]

/-! ## Failures and what the consumer sees -/

/-- The failure classes and the report (60_exceptions.md sections 1 and 4; 10_state.md section 4, the spec's decision D20):
after any failure of any class the parser is in `ZERO`, and a checksum mismatch is the one class the outputs show. Over
all steps, whatever their ports, `frame_done` is 1 exactly in a step that consumes a byte in `CHECK_LOW`, and `frame_ok` is
0 whenever `frame_done` is. -/
def Obligations.FailuresReturnToZero : Prop :=
  (∀ (s t : State) (c : Byte), exec (decodeByte s.state c) s = .next t →
    (failureClass (decodeByte s.state c) s ≠ none → t.state = .zero) ∧
    (failureClass (decodeByte s.state c) s = some .checksumMismatch ↔ t.frameDone = true ∧ t.frameOk = false)) ∧
  ∀ s t : State, step s = .next t →
    (t.frameDone = true ↔ s.state = .checkLow ∧ consumesByte s.sampledPorts = true) ∧
    (t.frameDone = false → t.frameOk = false)

/-- What no port shows (10_state.md section 4, 60_exceptions.md section 1): a consumer's read tells nothing of `state` and
`idx`, and a byte consumed in a sync state, match or mismatch, leaves every read as it was, both outputs at 0. -/
def Obligations.SyncProgressIsInvisible : Prop :=
  (∀ (s : State) (st : ParserState) (i : BitVec 6), ({ s with state := st, idx := i } : State).readout = s.readout) ∧
  ∀ (s t : State) (c : Byte), s.state = .zero ∨ s.state = .syncS ∨ s.state = .syncSn →
    exec (decodeByte s.state c) s = .next t →
    t.readout = { s.readout with frameDone := false, frameOk := false }

/-! ## Invariants and whole-machine rules -/

/-- The model's reset state meets the invariant (its parameters and reset values are the model's choice: log entries 3, 5,
7). -/
def Obligations.ResetMeetsTheInvariant : Prop := StateInv State.reset

/-- Every step keeps the invariant of 10_state.md section 5: allowed parameters, the buffer in canonical form, the payload
index below `data_length` while a payload is received and equal to it once the payload is complete. -/
def Obligations.StepKeepsTheInvariant : Prop := ∀ s t : State, StateInv s → step s = .next t → StateInv t

/-- Two buffers in canonical form that read alike at every index are the same list. -/
def Obligations.CanonicalBuffersAreEqual : Prop :=
  ∀ m n : List Host.Cell, Memory.wf m = true → Memory.wf n = true →
    (∀ i < 64, Memory.read m i = Memory.read n i) → m = n

/-- The frame of the instructions that store nothing to the buffer: every byte of it reads as before. -/
def Obligations.OnlyPayloadBytesStore : Prop :=
  ∀ (i : Instr) (s t : State), (∀ c, i ≠ .pl c) → (∀ a, i ≠ .cmd a) → i ≠ .reset → exec i s = .next t →
    ∀ k, t.readData k = s.readData k

/-- No instruction changes the parameters or the inputs to come (10_state.md section 5: the configuration is a parameter of
the transition function, the byte stream is an input). -/
def Obligations.NoInstructionChangesParametersOrInputs : Prop :=
  ∀ (i : Instr) (s t : State), exec i s = .next t → t.config = s.config ∧ t.inputs = s.inputs

/-- Who writes the Packet registers (10_state.md section 2): apart from reset, each is written only by a step that consumes
a byte in its own parser state, with that byte; the buffer only in `PAYLOAD`, at the index. -/
def Obligations.PacketRegistersHaveOneWriter : Prop :=
  ∀ s t : State, step s = .next t → s.sampledPorts.rst = false → Memory.wf s.data = true →
    (t.packetType = s.packetType ∨
      s.state = .syncSnp ∧ consumesByte s.sampledPorts = true ∧ t.packetType = s.sampledPorts.byteIn) ∧
    (t.address = s.address ∨
      s.state = .type ∧ consumesByte s.sampledPorts = true ∧ t.address = s.sampledPorts.byteIn) ∧
    (t.checksum1 = s.checksum1 ∨
      s.state = .checkHigh ∧ consumesByte s.sampledPorts = true ∧ t.checksum1 = s.sampledPorts.byteIn) ∧
    (t.checksum0 = s.checksum0 ∨
      s.state = .checkLow ∧ consumesByte s.sampledPorts = true ∧ t.checksum0 = s.sampledPorts.byteIn) ∧
    ∀ i, t.readData i = s.readData i ∨
      s.state = .payload ∧ consumesByte s.sampledPorts = true ∧ i = s.idx.toNat ∧ t.readData i = s.sampledPorts.byteIn

/-- What earlier bytes change about how later bytes are decoded is `state`, `idx` and `packet_type` and nothing else
(20_memory.md section 6, which derives it): two states that agree on the three and on the ports of a step without `rst`
select the same instructions and agree on the three after it. -/
def Obligations.DecodingDependsOnThreeRegisters : Prop :=
  ∀ s s' t t' : State, s.state = s'.state → s.idx = s'.idx → s.packetType = s'.packetType →
    s.sampledPorts = s'.sampledPorts → s.sampledPorts.rst = false → step s = .next t → step s' = .next t' →
    selectEvents s.state s.sampledPorts = selectEvents s'.state s'.sampledPorts ∧
    t.state = t'.state ∧ t.idx = t'.idx ∧ t.packetType = t'.packetType

/-! ## Streams of bytes -/

/-- A well-formed frame (30_encoding.md sections 1 and 7) presented from `ZERO` is accepted at its last byte and not
before: the parser ends in `ZERO`, the Packet registers hold the frame, the buffer bytes past its payload stay, and the
Device State is what the selected decoder makes of this Packet. -/
def Obligations.WellFormedFrameIsAccepted : Prop :=
  ∀ (s : State) (pt a : Byte) (payload : List Byte), s.state = .zero → Memory.wf s.data = true →
    payload.length = dataLength pt →
    ∃ t u, feed (frame pt a payload) s = .next t ∧ reports (frame pt a payload) s = [true] ∧
      (frame pt a payload).length = 7 + payload.length ∧
      t.state = .zero ∧ t.frameDone = true ∧ t.frameOk = true ∧ t.packetType = pt ∧ t.address = a ∧
      be16 t.checksum1 t.checksum0 = frameSum pt a payload ∧ t.packetValid = true ∧
      (∀ i, t.readData i = (payload[i]?).getD (s.readData i)) ∧
      exec (selectField s.config a).instr { s with packetType := pt, address := a, data := t.data } = .next u ∧
      t.device = u.device

/-- A frame with any other checksum, presented from `ZERO`, is rejected at its last byte and not before; the Device State
is unchanged, the parser ends in `ZERO`, the Packet registers hold the rejected frame (60_exceptions.md section 1,
42_payload_bytes.md corner case (e) of its first rule). -/
def Obligations.CorruptedChecksumIsRejected : Prop :=
  ∀ (s : State) (pt a : Byte) (payload : List Byte) (sum : Half), s.state = .zero → Memory.wf s.data = true →
    payload.length = dataLength pt → sum ≠ frameSum pt a payload →
    ∃ t, feed (frameWith pt a payload sum) s = .next t ∧ reports (frameWith pt a payload sum) s = [false] ∧
      t.frameDone = true ∧ t.frameOk = false ∧ t.state = .zero ∧ t.device = s.device ∧ t.packetType = pt ∧ t.address = a ∧
      be16 t.checksum1 t.checksum0 = sum ∧ t.packetValid = false ∧
      ∀ i, t.readData i = (payload[i]?).getD (s.readData i)

/-- R166: a frame with a corrupted checksum yields a failed parse, and the very next valid frame appended afterward still
parses successfully. -/
def Obligations.RecoveryAfterACorruptedChecksum : Prop :=
  ∀ (s : State) (pt a pt' a' : Byte) (payload payload' : List Byte) (sum : Half), s.state = .zero →
    Memory.wf s.data = true → payload.length = dataLength pt → payload'.length = dataLength pt' →
    sum ≠ frameSum pt a payload →
    reports (frameWith pt a payload sum ++ frame pt' a' payload') s = [false, true] ∧
    ∃ t, feed (frameWith pt a payload sum ++ frame pt' a' payload') s = .next t ∧ t.state = .zero ∧
      t.packetType = pt' ∧ t.address = a' ∧ ∀ i, (h : i < payload'.length) → t.readData i = payload'[i]

/-- The bound of 70_reset_and_hazards.md section 4 (which derives it): from `SYNC_SNP`, exactly `4 + data_length` bytes, at
most 64, bring the parser back to `ZERO`, with exactly one report, and it is not in `ZERO` before. -/
def Obligations.FrameEndsAfterItsLength : Prop :=
  ∀ (s : State) (c : Byte) (bytes : List Byte), s.state = .syncSnp → bytes.length = 3 + dataLength c →
    (c :: bytes).length ≤ 64 ∧
    (∃ t, feed (c :: bytes) s = .next t ∧ t.state = .zero ∧ t.frameDone = true) ∧
    (reports (c :: bytes) s).length = 1 ∧
    ∀ k < (c :: bytes).length, ∀ t, feed ((c :: bytes).take k) s = .next t → t.state ≠ .zero

/-- The second bound of 70_reset_and_hazards.md section 4: from any state that meets the invariant, at most 66 bytes bring
the parser to `ZERO` at least once. -/
def Obligations.ParserReturnsWithinSixtySixBytes : Prop :=
  ∀ (s : State) (bytes : List Byte), StateInv s → bytes.length = 66 →
    ∃ k ≤ 66, ∃ t, feed (bytes.take k) s = .next t ∧ t.state = .zero

/-- The third bound of 70_reset_and_hazards.md section 4: a stream of `n` bytes from `ZERO` produces at most `n / 7`
reports. -/
def Obligations.ReportsNeedSevenBytes : Prop :=
  ∀ (s : State) (bytes : List Byte), s.state = .zero → (reports bytes s).length ≤ bytes.length / 7

/-- The software call (60_exceptions.md section 4, which derives it): it returns only with the parser in `ZERO`, having
consumed exactly the bytes up to the one that made the first report, whose outcome it returns, and leaves the rest of
the stream; it does not return exactly when the stream makes no report. -/
def Obligations.ParseNextStopsAtTheFirstReport : Prop :=
  ∀ (s : State) (bytes : List Byte),
    (parseNext s bytes = none ↔ reports bytes s = []) ∧
    ∀ (t : State) (ok : Bool) (rest : List Byte), parseNext s bytes = some (t, ok, rest) →
      t.state = .zero ∧ t.frameDone = true ∧ t.frameOk = ok ∧
      ∃ used, bytes = used ++ rest ∧ feed used s = .next t ∧ reports used s = [ok]

/-! ## Command frames -/

/-- The command frame (45_command_frames.md): always the seven bytes 73 6E 70 00 addr hi lo with the 16-bit sum of the
first five bytes in the last two, high byte first. The other clauses are what that file derives from the checksum
function: the sum is 0x0151 plus the address, its high byte is 0x01 up to the address 0xAE and 0x02 from 0xAF, and the
frame is the general frame with type 0x00 and no payload. -/
def Obligations.CommandFrameLayout : Prop :=
  ∀ a : Byte, ∃ hi lo : Byte,
    commandFrame a = [0x73#8, 0x6E#8, 0x70#8, 0x00#8, a, hi, lo] ∧
    hi.toNat * 256 + lo.toNat = 0x73 + 0x6E + 0x70 + 0x00 + a.toNat ∧
    hi.toNat * 256 + lo.toNat = 0x0151 + a.toNat ∧
    (a.toNat ≤ 0xAE → hi = 0x01#8) ∧ (0xAF ≤ a.toNat → hi = 0x02#8) ∧
    commandFrame a = frame 0x00#8 a []

/-- A command frame seen by the parser (45_command_frames.md, which derives it): from `ZERO` it is accepted for every
address, the parser ends in `ZERO`, the Packet registers hold it, the buffer is untouched, and the Device State changes
only as the decoder its address selects changes it. -/
def Obligations.CommandFrameIsAccepted : Prop :=
  ∀ (s : State) (a : Byte), s.state = .zero →
    ∃ t u, exec (.cmd a) s = .next t ∧ t.state = .zero ∧ t.frameDone = true ∧ t.frameOk = true ∧
      t.packetType = 0x00#8 ∧ t.address = a ∧ t.idx = 0#6 ∧ t.data = s.data ∧
      t.checksum1.toNat * 256 + t.checksum0.toNat = 0x0151 + a.toNat ∧
      t.config = s.config ∧ t.inputs = s.inputs ∧
      exec (selectField s.config a).instr { s with packetType := 0x00#8, address := a } = .next u ∧
      t.device = u.device

/-- `CMD` is the sequence the table says: executed in any state it is the seven steps that present its bytes (log entry
12). -/
def Obligations.CommandIsItsSevenSteps : Prop :=
  ∀ (s : State) (a : Byte), ∃ t, exec (.cmd a) s = .next t ∧
    feed (commandFrame a) s = .next { t with inputs := [] }
end

