-- ==== Sys2Proof/Laws/State.lean ====
section
/-! SUPPORT. What each named update of State leaves in each field, true by rfl. -/

namespace Sys2Proof.Machine

variable (s : State)

@[simp] theorem State.noReport_eq : s.noReport = s.output false false := rfl
@[simp] theorem State.reportAccept_eq : s.reportAccept = s.output true true := rfl
@[simp] theorem State.reportReject_eq : s.reportReject = s.output true false := rfl
@[simp] theorem State.takeFailure_syncMiss : s.takeFailure .syncMiss = (s.goto .zero).output false false := rfl
@[simp] theorem State.takeFailure_checksumMismatch :
    s.takeFailure .checksumMismatch = (s.goto .zero).output true false := rfl
@[simp] theorem State.takeFailure_unknownAddress : s.takeFailure .unknownAddress = s := rfl

@[simp] theorem State.goto_state (st : ParserState) : (s.goto st).state = st := rfl
@[simp] theorem State.goto_idx (st : ParserState) : (s.goto st).idx = s.idx := rfl
@[simp] theorem State.goto_packetType (st : ParserState) : (s.goto st).packetType = s.packetType := rfl
@[simp] theorem State.goto_address (st : ParserState) : (s.goto st).address = s.address := rfl
@[simp] theorem State.goto_data (st : ParserState) : (s.goto st).data = s.data := rfl
@[simp] theorem State.goto_checksum1 (st : ParserState) : (s.goto st).checksum1 = s.checksum1 := rfl
@[simp] theorem State.goto_checksum0 (st : ParserState) : (s.goto st).checksum0 = s.checksum0 := rfl
@[simp] theorem State.goto_roll (st : ParserState) : (s.goto st).roll = s.roll := rfl
@[simp] theorem State.goto_pitch (st : ParserState) : (s.goto st).pitch = s.pitch := rfl
@[simp] theorem State.goto_yaw (st : ParserState) : (s.goto st).yaw = s.yaw := rfl
@[simp] theorem State.goto_rollRate (st : ParserState) : (s.goto st).rollRate = s.rollRate := rfl
@[simp] theorem State.goto_pitchRate (st : ParserState) : (s.goto st).pitchRate = s.pitchRate := rfl
@[simp] theorem State.goto_yawRate (st : ParserState) : (s.goto st).yawRate = s.yawRate := rfl
@[simp] theorem State.goto_gyroX (st : ParserState) : (s.goto st).gyroX = s.gyroX := rfl
@[simp] theorem State.goto_gyroY (st : ParserState) : (s.goto st).gyroY = s.gyroY := rfl
@[simp] theorem State.goto_gyroZ (st : ParserState) : (s.goto st).gyroZ = s.gyroZ := rfl
@[simp] theorem State.goto_error (st : ParserState) : (s.goto st).error = s.error := rfl
@[simp] theorem State.goto_firmwareString (st : ParserState) : (s.goto st).firmwareString = s.firmwareString := rfl
@[simp] theorem State.goto_newFwString (st : ParserState) : (s.goto st).newFwString = s.newFwString := rfl
@[simp] theorem State.goto_frameDone (st : ParserState) : (s.goto st).frameDone = s.frameDone := rfl
@[simp] theorem State.goto_frameOk (st : ParserState) : (s.goto st).frameOk = s.frameOk := rfl
@[simp] theorem State.goto_inputs (st : ParserState) : (s.goto st).inputs = s.inputs := rfl
@[simp] theorem State.goto_config (st : ParserState) : (s.goto st).config = s.config := rfl

@[simp] theorem State.output_state (d k : Bool) : (s.output d k).state = s.state := rfl
@[simp] theorem State.output_idx (d k : Bool) : (s.output d k).idx = s.idx := rfl
@[simp] theorem State.output_packetType (d k : Bool) : (s.output d k).packetType = s.packetType := rfl
@[simp] theorem State.output_address (d k : Bool) : (s.output d k).address = s.address := rfl
@[simp] theorem State.output_data (d k : Bool) : (s.output d k).data = s.data := rfl
@[simp] theorem State.output_checksum1 (d k : Bool) : (s.output d k).checksum1 = s.checksum1 := rfl
@[simp] theorem State.output_checksum0 (d k : Bool) : (s.output d k).checksum0 = s.checksum0 := rfl
@[simp] theorem State.output_roll (d k : Bool) : (s.output d k).roll = s.roll := rfl
@[simp] theorem State.output_pitch (d k : Bool) : (s.output d k).pitch = s.pitch := rfl
@[simp] theorem State.output_yaw (d k : Bool) : (s.output d k).yaw = s.yaw := rfl
@[simp] theorem State.output_rollRate (d k : Bool) : (s.output d k).rollRate = s.rollRate := rfl
@[simp] theorem State.output_pitchRate (d k : Bool) : (s.output d k).pitchRate = s.pitchRate := rfl
@[simp] theorem State.output_yawRate (d k : Bool) : (s.output d k).yawRate = s.yawRate := rfl
@[simp] theorem State.output_gyroX (d k : Bool) : (s.output d k).gyroX = s.gyroX := rfl
@[simp] theorem State.output_gyroY (d k : Bool) : (s.output d k).gyroY = s.gyroY := rfl
@[simp] theorem State.output_gyroZ (d k : Bool) : (s.output d k).gyroZ = s.gyroZ := rfl
@[simp] theorem State.output_error (d k : Bool) : (s.output d k).error = s.error := rfl
@[simp] theorem State.output_firmwareString (d k : Bool) : (s.output d k).firmwareString = s.firmwareString := rfl
@[simp] theorem State.output_newFwString (d k : Bool) : (s.output d k).newFwString = s.newFwString := rfl
@[simp] theorem State.output_frameDone (d k : Bool) : (s.output d k).frameDone = d := rfl
@[simp] theorem State.output_frameOk (d k : Bool) : (s.output d k).frameOk = k := rfl
@[simp] theorem State.output_inputs (d k : Bool) : (s.output d k).inputs = s.inputs := rfl
@[simp] theorem State.output_config (d k : Bool) : (s.output d k).config = s.config := rfl

@[simp] theorem State.memWrite_state (i : BitVec 6) (c : Byte) : (s.memWrite i c).state = s.state := rfl
@[simp] theorem State.memWrite_idx (i : BitVec 6) (c : Byte) : (s.memWrite i c).idx = s.idx := rfl
@[simp] theorem State.memWrite_packetType (i : BitVec 6) (c : Byte) : (s.memWrite i c).packetType = s.packetType := rfl
@[simp] theorem State.memWrite_address (i : BitVec 6) (c : Byte) : (s.memWrite i c).address = s.address := rfl
@[simp] theorem State.memWrite_data (i : BitVec 6) (c : Byte) : (s.memWrite i c).data = Memory.write s.data i.toNat c := rfl
@[simp] theorem State.memWrite_checksum1 (i : BitVec 6) (c : Byte) : (s.memWrite i c).checksum1 = s.checksum1 := rfl
@[simp] theorem State.memWrite_checksum0 (i : BitVec 6) (c : Byte) : (s.memWrite i c).checksum0 = s.checksum0 := rfl
@[simp] theorem State.memWrite_roll (i : BitVec 6) (c : Byte) : (s.memWrite i c).roll = s.roll := rfl
@[simp] theorem State.memWrite_pitch (i : BitVec 6) (c : Byte) : (s.memWrite i c).pitch = s.pitch := rfl
@[simp] theorem State.memWrite_yaw (i : BitVec 6) (c : Byte) : (s.memWrite i c).yaw = s.yaw := rfl
@[simp] theorem State.memWrite_rollRate (i : BitVec 6) (c : Byte) : (s.memWrite i c).rollRate = s.rollRate := rfl
@[simp] theorem State.memWrite_pitchRate (i : BitVec 6) (c : Byte) : (s.memWrite i c).pitchRate = s.pitchRate := rfl
@[simp] theorem State.memWrite_yawRate (i : BitVec 6) (c : Byte) : (s.memWrite i c).yawRate = s.yawRate := rfl
@[simp] theorem State.memWrite_gyroX (i : BitVec 6) (c : Byte) : (s.memWrite i c).gyroX = s.gyroX := rfl
@[simp] theorem State.memWrite_gyroY (i : BitVec 6) (c : Byte) : (s.memWrite i c).gyroY = s.gyroY := rfl
@[simp] theorem State.memWrite_gyroZ (i : BitVec 6) (c : Byte) : (s.memWrite i c).gyroZ = s.gyroZ := rfl
@[simp] theorem State.memWrite_error (i : BitVec 6) (c : Byte) : (s.memWrite i c).error = s.error := rfl
@[simp] theorem State.memWrite_firmwareString (i : BitVec 6) (c : Byte) : (s.memWrite i c).firmwareString = s.firmwareString := rfl
@[simp] theorem State.memWrite_newFwString (i : BitVec 6) (c : Byte) : (s.memWrite i c).newFwString = s.newFwString := rfl
@[simp] theorem State.memWrite_frameDone (i : BitVec 6) (c : Byte) : (s.memWrite i c).frameDone = s.frameDone := rfl
@[simp] theorem State.memWrite_frameOk (i : BitVec 6) (c : Byte) : (s.memWrite i c).frameOk = s.frameOk := rfl
@[simp] theorem State.memWrite_inputs (i : BitVec 6) (c : Byte) : (s.memWrite i c).inputs = s.inputs := rfl
@[simp] theorem State.memWrite_config (i : BitVec 6) (c : Byte) : (s.memWrite i c).config = s.config := rfl

@[simp] theorem State.writeFirmware_state (b0 b1 b2 b3 : Byte) : (s.writeFirmware b0 b1 b2 b3).state = s.state := rfl
@[simp] theorem State.writeFirmware_idx (b0 b1 b2 b3 : Byte) : (s.writeFirmware b0 b1 b2 b3).idx = s.idx := rfl
@[simp] theorem State.writeFirmware_packetType (b0 b1 b2 b3 : Byte) : (s.writeFirmware b0 b1 b2 b3).packetType = s.packetType := rfl
@[simp] theorem State.writeFirmware_address (b0 b1 b2 b3 : Byte) : (s.writeFirmware b0 b1 b2 b3).address = s.address := rfl
@[simp] theorem State.writeFirmware_data (b0 b1 b2 b3 : Byte) : (s.writeFirmware b0 b1 b2 b3).data = s.data := rfl
@[simp] theorem State.writeFirmware_checksum1 (b0 b1 b2 b3 : Byte) : (s.writeFirmware b0 b1 b2 b3).checksum1 = s.checksum1 := rfl
@[simp] theorem State.writeFirmware_checksum0 (b0 b1 b2 b3 : Byte) : (s.writeFirmware b0 b1 b2 b3).checksum0 = s.checksum0 := rfl
@[simp] theorem State.writeFirmware_roll (b0 b1 b2 b3 : Byte) : (s.writeFirmware b0 b1 b2 b3).roll = s.roll := rfl
@[simp] theorem State.writeFirmware_pitch (b0 b1 b2 b3 : Byte) : (s.writeFirmware b0 b1 b2 b3).pitch = s.pitch := rfl
@[simp] theorem State.writeFirmware_yaw (b0 b1 b2 b3 : Byte) : (s.writeFirmware b0 b1 b2 b3).yaw = s.yaw := rfl
@[simp] theorem State.writeFirmware_rollRate (b0 b1 b2 b3 : Byte) : (s.writeFirmware b0 b1 b2 b3).rollRate = s.rollRate := rfl
@[simp] theorem State.writeFirmware_pitchRate (b0 b1 b2 b3 : Byte) : (s.writeFirmware b0 b1 b2 b3).pitchRate = s.pitchRate := rfl
@[simp] theorem State.writeFirmware_yawRate (b0 b1 b2 b3 : Byte) : (s.writeFirmware b0 b1 b2 b3).yawRate = s.yawRate := rfl
@[simp] theorem State.writeFirmware_gyroX (b0 b1 b2 b3 : Byte) : (s.writeFirmware b0 b1 b2 b3).gyroX = s.gyroX := rfl
@[simp] theorem State.writeFirmware_gyroY (b0 b1 b2 b3 : Byte) : (s.writeFirmware b0 b1 b2 b3).gyroY = s.gyroY := rfl
@[simp] theorem State.writeFirmware_gyroZ (b0 b1 b2 b3 : Byte) : (s.writeFirmware b0 b1 b2 b3).gyroZ = s.gyroZ := rfl
@[simp] theorem State.writeFirmware_error (b0 b1 b2 b3 : Byte) : (s.writeFirmware b0 b1 b2 b3).error = s.error := rfl
@[simp] theorem State.writeFirmware_firmwareString (b0 b1 b2 b3 : Byte) : (s.writeFirmware b0 b1 b2 b3).firmwareString = #v[b0, b1, b2, b3] := rfl
@[simp] theorem State.writeFirmware_newFwString (b0 b1 b2 b3 : Byte) : (s.writeFirmware b0 b1 b2 b3).newFwString = s.newFwString := rfl
@[simp] theorem State.writeFirmware_frameDone (b0 b1 b2 b3 : Byte) : (s.writeFirmware b0 b1 b2 b3).frameDone = s.frameDone := rfl
@[simp] theorem State.writeFirmware_frameOk (b0 b1 b2 b3 : Byte) : (s.writeFirmware b0 b1 b2 b3).frameOk = s.frameOk := rfl
@[simp] theorem State.writeFirmware_inputs (b0 b1 b2 b3 : Byte) : (s.writeFirmware b0 b1 b2 b3).inputs = s.inputs := rfl
@[simp] theorem State.writeFirmware_config (b0 b1 b2 b3 : Byte) : (s.writeFirmware b0 b1 b2 b3).config = s.config := rfl

@[simp] theorem State.setNewFw_state (v : Bool) : (s.setNewFw v).state = s.state := rfl
@[simp] theorem State.setNewFw_idx (v : Bool) : (s.setNewFw v).idx = s.idx := rfl
@[simp] theorem State.setNewFw_packetType (v : Bool) : (s.setNewFw v).packetType = s.packetType := rfl
@[simp] theorem State.setNewFw_address (v : Bool) : (s.setNewFw v).address = s.address := rfl
@[simp] theorem State.setNewFw_data (v : Bool) : (s.setNewFw v).data = s.data := rfl
@[simp] theorem State.setNewFw_checksum1 (v : Bool) : (s.setNewFw v).checksum1 = s.checksum1 := rfl
@[simp] theorem State.setNewFw_checksum0 (v : Bool) : (s.setNewFw v).checksum0 = s.checksum0 := rfl
@[simp] theorem State.setNewFw_roll (v : Bool) : (s.setNewFw v).roll = s.roll := rfl
@[simp] theorem State.setNewFw_pitch (v : Bool) : (s.setNewFw v).pitch = s.pitch := rfl
@[simp] theorem State.setNewFw_yaw (v : Bool) : (s.setNewFw v).yaw = s.yaw := rfl
@[simp] theorem State.setNewFw_rollRate (v : Bool) : (s.setNewFw v).rollRate = s.rollRate := rfl
@[simp] theorem State.setNewFw_pitchRate (v : Bool) : (s.setNewFw v).pitchRate = s.pitchRate := rfl
@[simp] theorem State.setNewFw_yawRate (v : Bool) : (s.setNewFw v).yawRate = s.yawRate := rfl
@[simp] theorem State.setNewFw_gyroX (v : Bool) : (s.setNewFw v).gyroX = s.gyroX := rfl
@[simp] theorem State.setNewFw_gyroY (v : Bool) : (s.setNewFw v).gyroY = s.gyroY := rfl
@[simp] theorem State.setNewFw_gyroZ (v : Bool) : (s.setNewFw v).gyroZ = s.gyroZ := rfl
@[simp] theorem State.setNewFw_error (v : Bool) : (s.setNewFw v).error = s.error := rfl
@[simp] theorem State.setNewFw_firmwareString (v : Bool) : (s.setNewFw v).firmwareString = s.firmwareString := rfl
@[simp] theorem State.setNewFw_newFwString (v : Bool) : (s.setNewFw v).newFwString = v := rfl
@[simp] theorem State.setNewFw_frameDone (v : Bool) : (s.setNewFw v).frameDone = s.frameDone := rfl
@[simp] theorem State.setNewFw_frameOk (v : Bool) : (s.setNewFw v).frameOk = s.frameOk := rfl
@[simp] theorem State.setNewFw_inputs (v : Bool) : (s.setNewFw v).inputs = s.inputs := rfl
@[simp] theorem State.setNewFw_config (v : Bool) : (s.setNewFw v).config = s.config := rfl

@[simp] theorem State.beginStep_state : (s.beginStep).state = s.state := rfl
@[simp] theorem State.beginStep_idx : (s.beginStep).idx = s.idx := rfl
@[simp] theorem State.beginStep_packetType : (s.beginStep).packetType = s.packetType := rfl
@[simp] theorem State.beginStep_address : (s.beginStep).address = s.address := rfl
@[simp] theorem State.beginStep_data : (s.beginStep).data = s.data := rfl
@[simp] theorem State.beginStep_checksum1 : (s.beginStep).checksum1 = s.checksum1 := rfl
@[simp] theorem State.beginStep_checksum0 : (s.beginStep).checksum0 = s.checksum0 := rfl
@[simp] theorem State.beginStep_roll : (s.beginStep).roll = s.roll := rfl
@[simp] theorem State.beginStep_pitch : (s.beginStep).pitch = s.pitch := rfl
@[simp] theorem State.beginStep_yaw : (s.beginStep).yaw = s.yaw := rfl
@[simp] theorem State.beginStep_rollRate : (s.beginStep).rollRate = s.rollRate := rfl
@[simp] theorem State.beginStep_pitchRate : (s.beginStep).pitchRate = s.pitchRate := rfl
@[simp] theorem State.beginStep_yawRate : (s.beginStep).yawRate = s.yawRate := rfl
@[simp] theorem State.beginStep_gyroX : (s.beginStep).gyroX = s.gyroX := rfl
@[simp] theorem State.beginStep_gyroY : (s.beginStep).gyroY = s.gyroY := rfl
@[simp] theorem State.beginStep_gyroZ : (s.beginStep).gyroZ = s.gyroZ := rfl
@[simp] theorem State.beginStep_error : (s.beginStep).error = s.error := rfl
@[simp] theorem State.beginStep_firmwareString : (s.beginStep).firmwareString = s.firmwareString := rfl
@[simp] theorem State.beginStep_newFwString : (s.beginStep).newFwString = s.newFwString := rfl
@[simp] theorem State.beginStep_frameDone : (s.beginStep).frameDone = false := rfl
@[simp] theorem State.beginStep_frameOk : (s.beginStep).frameOk = false := rfl
@[simp] theorem State.beginStep_inputs : (s.beginStep).inputs = s.inputs.tail := rfl
@[simp] theorem State.beginStep_config : (s.beginStep).config = s.config := rfl

@[simp] theorem State.setPacketType_state (c : Byte) : (s.setPacketType c).state = s.state := rfl
@[simp] theorem State.setPacketType_idx (c : Byte) : (s.setPacketType c).idx = s.idx := rfl
@[simp] theorem State.setPacketType_packetType (c : Byte) : (s.setPacketType c).packetType = c := rfl
@[simp] theorem State.setPacketType_address (c : Byte) : (s.setPacketType c).address = s.address := rfl
@[simp] theorem State.setPacketType_data (c : Byte) : (s.setPacketType c).data = s.data := rfl
@[simp] theorem State.setPacketType_checksum1 (c : Byte) : (s.setPacketType c).checksum1 = s.checksum1 := rfl
@[simp] theorem State.setPacketType_checksum0 (c : Byte) : (s.setPacketType c).checksum0 = s.checksum0 := rfl
@[simp] theorem State.setPacketType_roll (c : Byte) : (s.setPacketType c).roll = s.roll := rfl
@[simp] theorem State.setPacketType_pitch (c : Byte) : (s.setPacketType c).pitch = s.pitch := rfl
@[simp] theorem State.setPacketType_yaw (c : Byte) : (s.setPacketType c).yaw = s.yaw := rfl
@[simp] theorem State.setPacketType_rollRate (c : Byte) : (s.setPacketType c).rollRate = s.rollRate := rfl
@[simp] theorem State.setPacketType_pitchRate (c : Byte) : (s.setPacketType c).pitchRate = s.pitchRate := rfl
@[simp] theorem State.setPacketType_yawRate (c : Byte) : (s.setPacketType c).yawRate = s.yawRate := rfl
@[simp] theorem State.setPacketType_gyroX (c : Byte) : (s.setPacketType c).gyroX = s.gyroX := rfl
@[simp] theorem State.setPacketType_gyroY (c : Byte) : (s.setPacketType c).gyroY = s.gyroY := rfl
@[simp] theorem State.setPacketType_gyroZ (c : Byte) : (s.setPacketType c).gyroZ = s.gyroZ := rfl
@[simp] theorem State.setPacketType_error (c : Byte) : (s.setPacketType c).error = s.error := rfl
@[simp] theorem State.setPacketType_firmwareString (c : Byte) : (s.setPacketType c).firmwareString = s.firmwareString := rfl
@[simp] theorem State.setPacketType_newFwString (c : Byte) : (s.setPacketType c).newFwString = s.newFwString := rfl
@[simp] theorem State.setPacketType_frameDone (c : Byte) : (s.setPacketType c).frameDone = s.frameDone := rfl
@[simp] theorem State.setPacketType_frameOk (c : Byte) : (s.setPacketType c).frameOk = s.frameOk := rfl
@[simp] theorem State.setPacketType_inputs (c : Byte) : (s.setPacketType c).inputs = s.inputs := rfl
@[simp] theorem State.setPacketType_config (c : Byte) : (s.setPacketType c).config = s.config := rfl

@[simp] theorem State.startPayload_state (c : Byte) : (s.startPayload c).state = s.state := rfl
@[simp] theorem State.startPayload_idx (c : Byte) : (s.startPayload c).idx = 0#6 := rfl
@[simp] theorem State.startPayload_packetType (c : Byte) : (s.startPayload c).packetType = s.packetType := rfl
@[simp] theorem State.startPayload_address (c : Byte) : (s.startPayload c).address = c := rfl
@[simp] theorem State.startPayload_data (c : Byte) : (s.startPayload c).data = s.data := rfl
@[simp] theorem State.startPayload_checksum1 (c : Byte) : (s.startPayload c).checksum1 = s.checksum1 := rfl
@[simp] theorem State.startPayload_checksum0 (c : Byte) : (s.startPayload c).checksum0 = s.checksum0 := rfl
@[simp] theorem State.startPayload_roll (c : Byte) : (s.startPayload c).roll = s.roll := rfl
@[simp] theorem State.startPayload_pitch (c : Byte) : (s.startPayload c).pitch = s.pitch := rfl
@[simp] theorem State.startPayload_yaw (c : Byte) : (s.startPayload c).yaw = s.yaw := rfl
@[simp] theorem State.startPayload_rollRate (c : Byte) : (s.startPayload c).rollRate = s.rollRate := rfl
@[simp] theorem State.startPayload_pitchRate (c : Byte) : (s.startPayload c).pitchRate = s.pitchRate := rfl
@[simp] theorem State.startPayload_yawRate (c : Byte) : (s.startPayload c).yawRate = s.yawRate := rfl
@[simp] theorem State.startPayload_gyroX (c : Byte) : (s.startPayload c).gyroX = s.gyroX := rfl
@[simp] theorem State.startPayload_gyroY (c : Byte) : (s.startPayload c).gyroY = s.gyroY := rfl
@[simp] theorem State.startPayload_gyroZ (c : Byte) : (s.startPayload c).gyroZ = s.gyroZ := rfl
@[simp] theorem State.startPayload_error (c : Byte) : (s.startPayload c).error = s.error := rfl
@[simp] theorem State.startPayload_firmwareString (c : Byte) : (s.startPayload c).firmwareString = s.firmwareString := rfl
@[simp] theorem State.startPayload_newFwString (c : Byte) : (s.startPayload c).newFwString = s.newFwString := rfl
@[simp] theorem State.startPayload_frameDone (c : Byte) : (s.startPayload c).frameDone = s.frameDone := rfl
@[simp] theorem State.startPayload_frameOk (c : Byte) : (s.startPayload c).frameOk = s.frameOk := rfl
@[simp] theorem State.startPayload_inputs (c : Byte) : (s.startPayload c).inputs = s.inputs := rfl
@[simp] theorem State.startPayload_config (c : Byte) : (s.startPayload c).config = s.config := rfl

@[simp] theorem State.setChecksum1_state (c : Byte) : (s.setChecksum1 c).state = s.state := rfl
@[simp] theorem State.setChecksum1_idx (c : Byte) : (s.setChecksum1 c).idx = s.idx := rfl
@[simp] theorem State.setChecksum1_packetType (c : Byte) : (s.setChecksum1 c).packetType = s.packetType := rfl
@[simp] theorem State.setChecksum1_address (c : Byte) : (s.setChecksum1 c).address = s.address := rfl
@[simp] theorem State.setChecksum1_data (c : Byte) : (s.setChecksum1 c).data = s.data := rfl
@[simp] theorem State.setChecksum1_checksum1 (c : Byte) : (s.setChecksum1 c).checksum1 = c := rfl
@[simp] theorem State.setChecksum1_checksum0 (c : Byte) : (s.setChecksum1 c).checksum0 = s.checksum0 := rfl
@[simp] theorem State.setChecksum1_roll (c : Byte) : (s.setChecksum1 c).roll = s.roll := rfl
@[simp] theorem State.setChecksum1_pitch (c : Byte) : (s.setChecksum1 c).pitch = s.pitch := rfl
@[simp] theorem State.setChecksum1_yaw (c : Byte) : (s.setChecksum1 c).yaw = s.yaw := rfl
@[simp] theorem State.setChecksum1_rollRate (c : Byte) : (s.setChecksum1 c).rollRate = s.rollRate := rfl
@[simp] theorem State.setChecksum1_pitchRate (c : Byte) : (s.setChecksum1 c).pitchRate = s.pitchRate := rfl
@[simp] theorem State.setChecksum1_yawRate (c : Byte) : (s.setChecksum1 c).yawRate = s.yawRate := rfl
@[simp] theorem State.setChecksum1_gyroX (c : Byte) : (s.setChecksum1 c).gyroX = s.gyroX := rfl
@[simp] theorem State.setChecksum1_gyroY (c : Byte) : (s.setChecksum1 c).gyroY = s.gyroY := rfl
@[simp] theorem State.setChecksum1_gyroZ (c : Byte) : (s.setChecksum1 c).gyroZ = s.gyroZ := rfl
@[simp] theorem State.setChecksum1_error (c : Byte) : (s.setChecksum1 c).error = s.error := rfl
@[simp] theorem State.setChecksum1_firmwareString (c : Byte) : (s.setChecksum1 c).firmwareString = s.firmwareString := rfl
@[simp] theorem State.setChecksum1_newFwString (c : Byte) : (s.setChecksum1 c).newFwString = s.newFwString := rfl
@[simp] theorem State.setChecksum1_frameDone (c : Byte) : (s.setChecksum1 c).frameDone = s.frameDone := rfl
@[simp] theorem State.setChecksum1_frameOk (c : Byte) : (s.setChecksum1 c).frameOk = s.frameOk := rfl
@[simp] theorem State.setChecksum1_inputs (c : Byte) : (s.setChecksum1 c).inputs = s.inputs := rfl
@[simp] theorem State.setChecksum1_config (c : Byte) : (s.setChecksum1 c).config = s.config := rfl

@[simp] theorem State.setChecksum0_state (c : Byte) : (s.setChecksum0 c).state = s.state := rfl
@[simp] theorem State.setChecksum0_idx (c : Byte) : (s.setChecksum0 c).idx = s.idx := rfl
@[simp] theorem State.setChecksum0_packetType (c : Byte) : (s.setChecksum0 c).packetType = s.packetType := rfl
@[simp] theorem State.setChecksum0_address (c : Byte) : (s.setChecksum0 c).address = s.address := rfl
@[simp] theorem State.setChecksum0_data (c : Byte) : (s.setChecksum0 c).data = s.data := rfl
@[simp] theorem State.setChecksum0_checksum1 (c : Byte) : (s.setChecksum0 c).checksum1 = s.checksum1 := rfl
@[simp] theorem State.setChecksum0_checksum0 (c : Byte) : (s.setChecksum0 c).checksum0 = c := rfl
@[simp] theorem State.setChecksum0_roll (c : Byte) : (s.setChecksum0 c).roll = s.roll := rfl
@[simp] theorem State.setChecksum0_pitch (c : Byte) : (s.setChecksum0 c).pitch = s.pitch := rfl
@[simp] theorem State.setChecksum0_yaw (c : Byte) : (s.setChecksum0 c).yaw = s.yaw := rfl
@[simp] theorem State.setChecksum0_rollRate (c : Byte) : (s.setChecksum0 c).rollRate = s.rollRate := rfl
@[simp] theorem State.setChecksum0_pitchRate (c : Byte) : (s.setChecksum0 c).pitchRate = s.pitchRate := rfl
@[simp] theorem State.setChecksum0_yawRate (c : Byte) : (s.setChecksum0 c).yawRate = s.yawRate := rfl
@[simp] theorem State.setChecksum0_gyroX (c : Byte) : (s.setChecksum0 c).gyroX = s.gyroX := rfl
@[simp] theorem State.setChecksum0_gyroY (c : Byte) : (s.setChecksum0 c).gyroY = s.gyroY := rfl
@[simp] theorem State.setChecksum0_gyroZ (c : Byte) : (s.setChecksum0 c).gyroZ = s.gyroZ := rfl
@[simp] theorem State.setChecksum0_error (c : Byte) : (s.setChecksum0 c).error = s.error := rfl
@[simp] theorem State.setChecksum0_firmwareString (c : Byte) : (s.setChecksum0 c).firmwareString = s.firmwareString := rfl
@[simp] theorem State.setChecksum0_newFwString (c : Byte) : (s.setChecksum0 c).newFwString = s.newFwString := rfl
@[simp] theorem State.setChecksum0_frameDone (c : Byte) : (s.setChecksum0 c).frameDone = s.frameDone := rfl
@[simp] theorem State.setChecksum0_frameOk (c : Byte) : (s.setChecksum0 c).frameOk = s.frameOk := rfl
@[simp] theorem State.setChecksum0_inputs (c : Byte) : (s.setChecksum0 c).inputs = s.inputs := rfl
@[simp] theorem State.setChecksum0_config (c : Byte) : (s.setChecksum0 c).config = s.config := rfl

@[simp] theorem State.storePayload_state (c : Byte) : (s.storePayload c).state = s.state := rfl
@[simp] theorem State.storePayload_idx (c : Byte) : (s.storePayload c).idx = s.idx + 1#6 := rfl
@[simp] theorem State.storePayload_packetType (c : Byte) : (s.storePayload c).packetType = s.packetType := rfl
@[simp] theorem State.storePayload_address (c : Byte) : (s.storePayload c).address = s.address := rfl
@[simp] theorem State.storePayload_data (c : Byte) : (s.storePayload c).data = Memory.write s.data s.idx.toNat c := rfl
@[simp] theorem State.storePayload_checksum1 (c : Byte) : (s.storePayload c).checksum1 = s.checksum1 := rfl
@[simp] theorem State.storePayload_checksum0 (c : Byte) : (s.storePayload c).checksum0 = s.checksum0 := rfl
@[simp] theorem State.storePayload_roll (c : Byte) : (s.storePayload c).roll = s.roll := rfl
@[simp] theorem State.storePayload_pitch (c : Byte) : (s.storePayload c).pitch = s.pitch := rfl
@[simp] theorem State.storePayload_yaw (c : Byte) : (s.storePayload c).yaw = s.yaw := rfl
@[simp] theorem State.storePayload_rollRate (c : Byte) : (s.storePayload c).rollRate = s.rollRate := rfl
@[simp] theorem State.storePayload_pitchRate (c : Byte) : (s.storePayload c).pitchRate = s.pitchRate := rfl
@[simp] theorem State.storePayload_yawRate (c : Byte) : (s.storePayload c).yawRate = s.yawRate := rfl
@[simp] theorem State.storePayload_gyroX (c : Byte) : (s.storePayload c).gyroX = s.gyroX := rfl
@[simp] theorem State.storePayload_gyroY (c : Byte) : (s.storePayload c).gyroY = s.gyroY := rfl
@[simp] theorem State.storePayload_gyroZ (c : Byte) : (s.storePayload c).gyroZ = s.gyroZ := rfl
@[simp] theorem State.storePayload_error (c : Byte) : (s.storePayload c).error = s.error := rfl
@[simp] theorem State.storePayload_firmwareString (c : Byte) : (s.storePayload c).firmwareString = s.firmwareString := rfl
@[simp] theorem State.storePayload_newFwString (c : Byte) : (s.storePayload c).newFwString = s.newFwString := rfl
@[simp] theorem State.storePayload_frameDone (c : Byte) : (s.storePayload c).frameDone = s.frameDone := rfl
@[simp] theorem State.storePayload_frameOk (c : Byte) : (s.storePayload c).frameOk = s.frameOk := rfl
@[simp] theorem State.storePayload_inputs (c : Byte) : (s.storePayload c).inputs = s.inputs := rfl
@[simp] theorem State.storePayload_config (c : Byte) : (s.storePayload c).config = s.config := rfl

@[simp] theorem State.initial_state (cfg : Config) (ins : List Ports) :
    (State.initial cfg ins).state = .zero := rfl
@[simp] theorem State.initial_idx (cfg : Config) (ins : List Ports) :
    (State.initial cfg ins).idx = cfg.initPkt.idx := rfl
@[simp] theorem State.initial_packetType (cfg : Config) (ins : List Ports) :
    (State.initial cfg ins).packetType = cfg.initPkt.packetType := rfl
@[simp] theorem State.initial_address (cfg : Config) (ins : List Ports) :
    (State.initial cfg ins).address = cfg.initPkt.address := rfl
@[simp] theorem State.initial_data (cfg : Config) (ins : List Ports) :
    (State.initial cfg ins).data = cfg.initPkt.data := rfl
@[simp] theorem State.initial_checksum1 (cfg : Config) (ins : List Ports) :
    (State.initial cfg ins).checksum1 = cfg.initPkt.checksum1 := rfl
@[simp] theorem State.initial_checksum0 (cfg : Config) (ins : List Ports) :
    (State.initial cfg ins).checksum0 = cfg.initPkt.checksum0 := rfl
@[simp] theorem State.initial_roll (cfg : Config) (ins : List Ports) :
    (State.initial cfg ins).roll = cfg.initDev.roll := rfl
@[simp] theorem State.initial_pitch (cfg : Config) (ins : List Ports) :
    (State.initial cfg ins).pitch = cfg.initDev.pitch := rfl
@[simp] theorem State.initial_yaw (cfg : Config) (ins : List Ports) :
    (State.initial cfg ins).yaw = cfg.initDev.yaw := rfl
@[simp] theorem State.initial_rollRate (cfg : Config) (ins : List Ports) :
    (State.initial cfg ins).rollRate = cfg.initDev.rollRate := rfl
@[simp] theorem State.initial_pitchRate (cfg : Config) (ins : List Ports) :
    (State.initial cfg ins).pitchRate = cfg.initDev.pitchRate := rfl
@[simp] theorem State.initial_yawRate (cfg : Config) (ins : List Ports) :
    (State.initial cfg ins).yawRate = cfg.initDev.yawRate := rfl
@[simp] theorem State.initial_gyroX (cfg : Config) (ins : List Ports) :
    (State.initial cfg ins).gyroX = cfg.initDev.gyroX := rfl
@[simp] theorem State.initial_gyroY (cfg : Config) (ins : List Ports) :
    (State.initial cfg ins).gyroY = cfg.initDev.gyroY := rfl
@[simp] theorem State.initial_gyroZ (cfg : Config) (ins : List Ports) :
    (State.initial cfg ins).gyroZ = cfg.initDev.gyroZ := rfl
@[simp] theorem State.initial_error (cfg : Config) (ins : List Ports) :
    (State.initial cfg ins).error = cfg.initDev.error := rfl
@[simp] theorem State.initial_firmwareString (cfg : Config) (ins : List Ports) :
    (State.initial cfg ins).firmwareString = cfg.initDev.firmwareString := rfl
@[simp] theorem State.initial_newFwString (cfg : Config) (ins : List Ports) :
    (State.initial cfg ins).newFwString = false := rfl
@[simp] theorem State.initial_frameDone (cfg : Config) (ins : List Ports) :
    (State.initial cfg ins).frameDone = false := rfl
@[simp] theorem State.initial_frameOk (cfg : Config) (ins : List Ports) :
    (State.initial cfg ins).frameOk = false := rfl
@[simp] theorem State.initial_inputs (cfg : Config) (ins : List Ports) :
    (State.initial cfg ins).inputs = ins := rfl
@[simp] theorem State.initial_config (cfg : Config) (ins : List Ports) :
    (State.initial cfg ins).config = cfg := rfl

end Sys2Proof.Machine
end

