-- ==== Sys2Proof/Laws/Memory.lean ====
section
/-! SUPPORT. The payload buffer: a read after a write, the canonical form kept by every operation, equal contents are equal lists. -/

namespace Sys2Proof.Machine.Memory

@[simp] theorem read_nil (a : Nat) : read [] a = unlisted := rfl

theorem wfFrom_mono {lo hi : Nat} {m : List Host.Cell} (h : wfFrom hi m = true) (le : lo ≤ hi) : wfFrom lo m = true := by
  cases m with
  | nil => rfl
  | cons c m =>
    simp only [wfFrom, Bool.and_eq_true, decide_eq_true_eq] at h ⊢
    exact ⟨⟨⟨le.trans h.1.1.1, h.1.1.2⟩, h.1.2⟩, h.2⟩

theorem wfFrom_cons {lo k : Nat} {v : Byte} {m : List Host.Cell} :
    wfFrom lo ((k, v) :: m) = true ↔ lo ≤ k ∧ k < dataCap ∧ v ≠ unlisted ∧ wfFrom (k + 1) m = true := by
  simp [wfFrom, and_assoc]

/-- Below the indices a canonical list names, everything reads as unlisted. -/
theorem read_below {lo a : Nat} {m : List Host.Cell} (h : wfFrom lo m = true) (ha : a < lo) : read m a = unlisted := by
  induction m generalizing lo with
  | nil => rfl
  | cons c m ih =>
    obtain ⟨k, v⟩ := c
    obtain ⟨hk, -, -, hm⟩ := wfFrom_cons.mp h
    rw [read, if_neg (by omega)]
    exact ih hm (by omega)

/-- Past the buffer's end everything reads as unlisted. -/
theorem read_beyond {lo a : Nat} {m : List Host.Cell} (h : wfFrom lo m = true) (ha : dataCap ≤ a) :
    read m a = unlisted := by
  induction m generalizing lo with
  | nil => rfl
  | cons c m ih =>
    obtain ⟨k, v⟩ := c
    obtain ⟨-, hk, -, hm⟩ := wfFrom_cons.mp h
    rw [read, if_neg (by omega)]
    exact ih hm

theorem read_writeFrom {lo a : Nat} {m : List Host.Cell} (h : wfFrom lo m = true) (b : Byte) (x : Nat) :
    read (write m a b) x = if x = a then b else read m x := by
  induction m generalizing lo with
  | nil =>
    rcases eq_or_ne x a with rfl | hx
    · by_cases hb : b = unlisted <;> simp [write, read, hb]
    · by_cases hb : b = unlisted <;> simp [write, read, hb, hx, hx.symm]
  | cons c m ih =>
    obtain ⟨k, v⟩ := c
    obtain ⟨-, -, -, hm⟩ := wfFrom_cons.mp h
    rw [write]
    split
    · split
      · next hlt hb =>
        split
        · next hx => rw [read, if_neg (by omega), hb]; exact read_below hm (by omega)
        · rfl
      · next hlt hb => rw [read]; split <;> split <;> first | rfl | omega
    · split
      · next hge hak =>
        subst hak
        split
        · next hb =>
          split
          · next hx => rw [hx, hb]; exact read_below hm (by omega)
          · next hx => rw [read, if_neg (by omega)]
        · next hb =>
          rw [read, read]
          split <;> split <;> first | rfl | omega
      · next hge hak =>
        rw [read, read, ih hm]
        split <;> split <;> first | rfl | omega

/-- A read after a write gives the byte written, every other index reads as before. -/
theorem read_write {m : List Host.Cell} (h : wf m = true) (a : Nat) (b : Byte) (x : Nat) :
    read (write m a b) x = if x = a then b else read m x := read_writeFrom h b x

theorem wfFrom_write {lo a : Nat} {m : List Host.Cell} (h : wfFrom lo m = true) (b : Byte) (hlo : lo ≤ a)
    (ha : a < dataCap) : wfFrom lo (write m a b) = true := by
  induction m generalizing lo with
  | nil =>
    rw [write]
    split
    · rfl
    · exact wfFrom_cons.mpr ⟨hlo, ha, ‹_›, rfl⟩
  | cons c m ih =>
    obtain ⟨k, v⟩ := c
    obtain ⟨hk, hcap, hv, hm⟩ := wfFrom_cons.mp h
    rw [write]
    split
    · split
      · exact h
      · exact wfFrom_cons.mpr ⟨hlo, ha, ‹_›, wfFrom_cons.mpr ⟨by omega, hcap, hv, hm⟩⟩
    · split
      · next hge hak =>
        split
        · exact wfFrom_mono hm (by omega)
        · exact wfFrom_cons.mpr ⟨hlo, ha, ‹_›, hak ▸ hm⟩
      · exact wfFrom_cons.mpr ⟨hk, hcap, hv, ih hm (by omega)⟩

/-- Every write inside the buffer keeps the canonical form. -/
theorem wf_write {m : List Host.Cell} (h : wf m = true) {a : Nat} (ha : a < dataCap) (b : Byte) :
    wf (write m a b) = true := wfFrom_write h b (Nat.zero_le a) ha

end Sys2Proof.Machine.Memory

namespace Sys2Proof.Machine

/-- The one write of the machine keeps the canonical form: its 6-bit index is inside the buffer (R151). -/
theorem State.memWrite_wf {s : State} (h : Memory.wf s.data = true) (i : BitVec 6) (c : Byte) :
    Memory.wf (s.memWrite i c).data = true := Memory.wf_write h i.isLt c

/-- What the one write of the machine leaves in the buffer. -/
theorem State.readData_memWrite {s : State} (h : Memory.wf s.data = true) (i : BitVec 6) (c : Byte) (x : Nat) :
    (s.memWrite i c).readData x = if x = i.toNat then c else s.readData x := Memory.read_write h i.toNat c x

/-- A payload byte keeps the canonical form. -/
theorem State.storePayload_wf {s : State} (h : Memory.wf s.data = true) (c : Byte) :
    Memory.wf (s.storePayload c).data = true := State.memWrite_wf h s.idx c

theorem State.reset_memory_wf : Memory.wf State.reset.data = true := rfl

end Sys2Proof.Machine
end

