-- ==== Sys2Proof/Laws/Meanings.lean ====
section
/-! SUPPORT. One lemma per shared operation: what the Field Decoder leaves alone, that a consumed byte runs its decoded instruction, what one step is for each shape of its ports. -/

namespace Sys2Proof.Machine

variable (s : State)

/-! ## The Field Decoder -/

/-- The Field Decoder is one of its five operations, by the address (R92). -/
theorem State.fieldDecode_cases :
    (s.address = s.config.addrFw ∧ s.fieldDecode = s.decodeFw) ∨
    (s.address = s.config.addrHealth ∧ s.fieldDecode = s.decodeHealth) ∨
    (s.address = s.config.addrEuler ∧ s.fieldDecode = s.decodeEuler) ∨
    (s.address = s.config.addrGyro ∧ s.fieldDecode = s.decodeGyro) ∨
    (selectField s.config s.address = .nop ∧ s.fieldDecode = s) := by
  by_cases h1 : s.address = s.config.addrFw
  · exact .inl ⟨h1, by simp [State.fieldDecode, selectField, h1]⟩
  by_cases h2 : s.address = s.config.addrHealth
  · exact .inr (.inl ⟨h2, by simp [State.fieldDecode, selectField, h2, h2 ▸ h1]⟩)
  by_cases h3 : s.address = s.config.addrEuler
  · exact .inr (.inr (.inl ⟨h3, by simp [State.fieldDecode, selectField, h3, h3 ▸ h1, h3 ▸ h2]⟩))
  by_cases h4 : s.address = s.config.addrGyro
  · exact .inr (.inr (.inr (.inl ⟨h4, by simp [State.fieldDecode, selectField, h4, h4 ▸ h1, h4 ▸ h2, h4 ▸ h3]⟩)))
  · exact .inr (.inr (.inr (.inr ⟨by simp [selectField, h1, h2, h3, h4],
      by simp [State.fieldDecode, State.decodeNop, selectField, h1, h2, h3, h4]⟩)))

@[simp] theorem State.fieldDecode_state : s.fieldDecode.state = s.state := by
  unfold State.fieldDecode; split <;> rfl
@[simp] theorem State.fieldDecode_idx : s.fieldDecode.idx = s.idx := by
  unfold State.fieldDecode; split <;> rfl
@[simp] theorem State.fieldDecode_packetType : s.fieldDecode.packetType = s.packetType := by
  unfold State.fieldDecode; split <;> rfl
@[simp] theorem State.fieldDecode_address : s.fieldDecode.address = s.address := by
  unfold State.fieldDecode; split <;> rfl
@[simp] theorem State.fieldDecode_data : s.fieldDecode.data = s.data := by
  unfold State.fieldDecode; split <;> rfl
@[simp] theorem State.fieldDecode_checksum1 : s.fieldDecode.checksum1 = s.checksum1 := by
  unfold State.fieldDecode; split <;> rfl
@[simp] theorem State.fieldDecode_checksum0 : s.fieldDecode.checksum0 = s.checksum0 := by
  unfold State.fieldDecode; split <;> rfl
@[simp] theorem State.fieldDecode_frameDone : s.fieldDecode.frameDone = s.frameDone := by
  unfold State.fieldDecode; split <;> rfl
@[simp] theorem State.fieldDecode_frameOk : s.fieldDecode.frameOk = s.frameOk := by
  unfold State.fieldDecode; split <;> rfl
@[simp] theorem State.fieldDecode_inputs : s.fieldDecode.inputs = s.inputs := by
  unfold State.fieldDecode; split <;> rfl
@[simp] theorem State.fieldDecode_config : s.fieldDecode.config = s.config := by
  unfold State.fieldDecode; split <;> rfl

/-! ## A register across two runs -/

@[simp] theorem writtenAlike_written {α : Type} (old old' new : α) : writtenAlike old old' new new := .inl rfl
@[simp] theorem writtenAlike_kept {α : Type} (old old' : α) : writtenAlike old old' old old' := .inr ⟨rfl, rfl⟩

/-! ## Consuming a byte -/

/-- The fields of a byte make it up. -/
theorem typeByte_fields (c : Byte) :
    typeByte (hasData c) (isBatch c) (batchLength c) (isHidden c) (commandFailed c) = c := by
  revert c; decide +kernel

/-- Consuming a byte runs the instruction it decodes to (R229). -/
theorem consumeByte_eq_exec (c : Byte) : consumeByte c s = exec (decodeByte s.state c) s := by
  unfold consumeByte decodeByte
  cases classify s.state c <;> rfl

@[simp] theorem consumeBytes_nil : consumeBytes [] s = .next s := rfl

theorem consumeBytes_cons {c : Byte} {bytes : List Byte} {t : State} (h : consumeByte c s = .next t) :
    consumeBytes (c :: bytes) s = consumeBytes bytes t := by rw [consumeBytes, h]

/-! ## One step -/

@[simp] theorem execAll_nil : execAll [] s = .next s := rfl

theorem execAll_cons {i : Instr} {is : List Instr} {t : State} (h : exec i s = .next t) :
    execAll (i :: is) s = execAll is t := by rw [execAll, h]

@[simp] theorem execAll_singleton (i : Instr) : execAll [i] s = exec i s := by
  rw [execAll]; cases exec i s <;> rfl

@[simp] theorem State.sampledPorts_cons {p : Ports} {ps : List Ports} (h : s.inputs = p :: ps) : s.sampledPorts = p := by
  rw [State.sampledPorts, h]; rfl

@[simp] theorem State.sampledPorts_nil (h : s.inputs = []) : s.sampledPorts = .quiet := by
  rw [State.sampledPorts, h]; rfl

/-- A step presenting one byte and nothing else consumes it. -/
theorem step_ofByte {c : Byte} (h : s.sampledPorts = .ofByte c) : step s = consumeByte c s.beginStep := by
  rw [consumeByte_eq_exec, step, oneStep, h]
  simp [selectEvents, Ports.ofByte]

/-- The state a step's last event runs on: its ports taken, its outputs at 0, the dirty flag cleared when asked (R229). -/
def State.afterConsume : State :=
  if s.sampledPorts.fwConsume then s.beginStep.setNewFw false else s.beginStep

@[simp] theorem State.afterConsume_state : s.afterConsume.state = s.state := by
  unfold State.afterConsume; split <;> rfl
@[simp] theorem State.afterConsume_idx : s.afterConsume.idx = s.idx := by
  unfold State.afterConsume; split <;> rfl
@[simp] theorem State.afterConsume_packetType : s.afterConsume.packetType = s.packetType := by
  unfold State.afterConsume; split <;> rfl
@[simp] theorem State.afterConsume_address : s.afterConsume.address = s.address := by
  unfold State.afterConsume; split <;> rfl
@[simp] theorem State.afterConsume_data : s.afterConsume.data = s.data := by
  unfold State.afterConsume; split <;> rfl
@[simp] theorem State.afterConsume_checksum1 : s.afterConsume.checksum1 = s.checksum1 := by
  unfold State.afterConsume; split <;> rfl
@[simp] theorem State.afterConsume_checksum0 : s.afterConsume.checksum0 = s.checksum0 := by
  unfold State.afterConsume; split <;> rfl
@[simp] theorem State.afterConsume_roll : s.afterConsume.roll = s.roll := by
  unfold State.afterConsume; split <;> rfl
@[simp] theorem State.afterConsume_pitch : s.afterConsume.pitch = s.pitch := by
  unfold State.afterConsume; split <;> rfl
@[simp] theorem State.afterConsume_yaw : s.afterConsume.yaw = s.yaw := by
  unfold State.afterConsume; split <;> rfl
@[simp] theorem State.afterConsume_rollRate : s.afterConsume.rollRate = s.rollRate := by
  unfold State.afterConsume; split <;> rfl
@[simp] theorem State.afterConsume_pitchRate : s.afterConsume.pitchRate = s.pitchRate := by
  unfold State.afterConsume; split <;> rfl
@[simp] theorem State.afterConsume_yawRate : s.afterConsume.yawRate = s.yawRate := by
  unfold State.afterConsume; split <;> rfl
@[simp] theorem State.afterConsume_gyroX : s.afterConsume.gyroX = s.gyroX := by
  unfold State.afterConsume; split <;> rfl
@[simp] theorem State.afterConsume_gyroY : s.afterConsume.gyroY = s.gyroY := by
  unfold State.afterConsume; split <;> rfl
@[simp] theorem State.afterConsume_gyroZ : s.afterConsume.gyroZ = s.gyroZ := by
  unfold State.afterConsume; split <;> rfl
@[simp] theorem State.afterConsume_error : s.afterConsume.error = s.error := by
  unfold State.afterConsume; split <;> rfl
@[simp] theorem State.afterConsume_firmwareString : s.afterConsume.firmwareString = s.firmwareString := by
  unfold State.afterConsume; split <;> rfl
@[simp] theorem State.afterConsume_config : s.afterConsume.config = s.config := by
  unfold State.afterConsume; split <;> rfl
@[simp] theorem State.afterConsume_inputs : s.afterConsume.inputs = s.inputs.tail := by
  unfold State.afterConsume; split <;> rfl
@[simp] theorem State.afterConsume_newFwString :
    s.afterConsume.newFwString = if s.sampledPorts.fwConsume then false else s.newFwString := by
  unfold State.afterConsume; split <;> rfl
@[simp] theorem State.afterConsume_length : s.afterConsume.length = s.length := by simp [State.length]
@[simp] theorem State.afterConsume_checksum : s.afterConsume.checksum = s.checksum := by simp [State.checksum]

/-- Everything a step can do (R229). -/
theorem step_cases {s t : State} (h : step s = .next t) :
    (s.sampledPorts.rst = true ∧ t = State.initial s.config s.inputs.tail) ∨
    (s.sampledPorts.rst = false ∧ s.sampledPorts.resync = true ∧ t = (s.afterConsume.goto .zero).noReport) ∨
    (s.sampledPorts.rst = false ∧ s.sampledPorts.resync = false ∧ s.sampledPorts.byteValid = true ∧
      consumeByte s.sampledPorts.byteIn s.afterConsume = .next t) ∨
    (s.sampledPorts.rst = false ∧ s.sampledPorts.resync = false ∧ s.sampledPorts.byteValid = false ∧
      t = s.afterConsume.noReport) := by
  have hst : s.afterConsume.state = s.state := by unfold State.afterConsume; split <;> rfl
  have key (i : Instr) :
      execAll ((if s.sampledPorts.fwConsume then [Instr.fwConsume] else []) ++ [i]) s.beginStep =
        exec i s.afterConsume := by
    unfold State.afterConsume
    cases s.sampledPorts.fwConsume
    · simp
    · simp only [if_true, List.singleton_append]
      rw [execAll_cons _ (show exec .fwConsume s.beginStep = .next (s.beginStep.setNewFw false) from rfl)]
      simp
  unfold step oneStep selectEvents at h
  cases hr : s.sampledPorts.rst
  · refine .inr ?_
    simp only [hr, Bool.false_eq_true, if_false, key] at h
    cases h1 : s.sampledPorts.resync
    · cases h2 : s.sampledPorts.byteValid
      · simp only [h1, h2, Bool.false_eq_true, if_false] at h
        cases h
        exact .inr (.inr ⟨rfl, rfl, rfl, rfl⟩)
      · simp only [h1, h2, Bool.false_eq_true, if_false, if_true] at h
        exact .inr (.inl ⟨rfl, rfl, rfl, by rw [consumeByte_eq_exec, hst]; exact h⟩)
    · simp only [h1, if_true] at h
      cases h
      exact .inl ⟨rfl, rfl, rfl⟩
  · simp only [hr, if_true, execAll_singleton] at h
    cases h
    exact .inl ⟨rfl, rfl⟩

/-- Everything consuming a byte can do (R91 and the byte rules). -/
theorem consumeByte_cases {c : Byte} {s t : State} (h : consumeByte c s = .next t) :
    (s.state = .zero ∧ t = (s.goto (if c = sync0 then .syncS else .zero)).noReport) ∨
    (s.state = .syncS ∧ t = (s.goto (if c = sync1 then .syncSn else .zero)).noReport) ∨
    (s.state = .syncSn ∧ t = (s.goto (if c = sync2 then .syncSnp else .zero)).noReport) ∨
    (s.state = .syncSnp ∧ t = s.recordType c) ∨
    (s.state = .type ∧ t = ((s.startPayload c).goto (if s.length = 0 then .checkHigh else .payload)).noReport) ∨
    (s.state = .payload ∧
      t = ((s.storePayload c).goto (if s.idx.toNat + 1 = s.length then .checkHigh else .payload)).noReport) ∨
    (s.state = .checkHigh ∧ t = ((s.setChecksum1 c).goto .checkLow).noReport) ∨
    (s.state = .checkLow ∧ be16 s.checksum1 c = s.checksum ∧
      t = ((s.setChecksum0 c).fieldDecode.goto .zero).reportAccept) ∨
    (s.state = .checkLow ∧ be16 s.checksum1 c ≠ s.checksum ∧ t = (s.setChecksum0 c).takeFailure .checksumMismatch) := by
  unfold consumeByte at h
  cases hs : s.state <;> simp only [hs, classify] at h
  case zero => left; by_cases hc : c = sync0 <;> simp_all [execZS, execZSkip]
  case syncS => right; left; by_cases hc : c = sync1 <;> simp_all [execSN, execSMiss]
  case syncSn => right; right; left; by_cases hc : c = sync2 <;> simp_all [execSnP, execSnMiss]
  case syncSnp =>
    right; right; right; left
    refine ⟨rfl, ?_⟩
    have hc := typeByte_fields c
    cases ha : hasData c <;> cases hb : isBatch c <;> simp only [ha, hb] at h hc <;> cases h <;> simp [hc]
  case type => cases h; simp
  case payload => cases h; simp
  case checkHigh => cases h; simp
  case checkLow =>
    unfold execCkl at h
    split at h <;> cases h <;> simp_all

@[simp] theorem feed_nil : feed [] s = .next s := rfl

theorem feed_cons {c : Byte} {bytes : List Byte} {t : State} (h : stepByte c s = .next t) :
    feed (c :: bytes) s = feed bytes t := by rw [feed, h]

end Sys2Proof.Machine
end

