-- ==== Sys2Proof/Laws/PerInstr.lean ====
section
/-! SUPPORT. Facts about instructions as syntax, one lemma per constructor: the format in which an instruction is encoded is the format its row of spec/opcode_table.json gives. -/

namespace Sys2Proof.Laws.EncodedFormat

/-- The format letters of the table (30_encoding.md R93, R100). -/
inductive Format where
  | B | PT | A | PORT | SEQ
  deriving DecidableEq, Repr

/-- The format column of an instruction's row. -/
def rowFormat : Instr → Format
  | .zS | .zSkip _ | .sN | .sMiss _ | .snP | .snMiss _ | .addr _ | .pl _ | .ckh _ | .ckl _ => .B
  | .ptNodata _ _ _ _ | .ptSingle _ _ _ | .ptBatch _ _ _ => .PT
  | .decFw | .decHealth | .decEuler | .decGyro | .decNop => .A
  | .reset | .fwConsume | .resync | .idle => .PORT
  | .cmd _ => .SEQ

/-- The format of an encoding: a stream byte is of format PT exactly in the state `SYNC_SNP` (R93). -/
def formatOf : Encoding → Format
  | .stream st _ => if st = .syncSnp then .PT else .B
  | .register _ => .A
  | .port _ => .PORT
  | .sequence _ => .SEQ

/-- For every choice of the parameters, an instruction is encoded in its row's format. -/
def Statement (i : Instr) : Prop := ∀ cfg : Config, formatOf (encode cfg i) = rowFormat i

theorem zS : Statement .zS := fun _ => rfl
theorem zSkip (c : Byte) : Statement (.zSkip c) := fun _ => rfl
theorem sN : Statement .sN := fun _ => rfl
theorem sMiss (c : Byte) : Statement (.sMiss c) := fun _ => rfl
theorem snP : Statement .snP := fun _ => rfl
theorem snMiss (c : Byte) : Statement (.snMiss c) := fun _ => rfl
theorem ptNodata (b : Bool) (n : BitVec 4) (h f : Bool) : Statement (.ptNodata b n h f) := fun _ => rfl
theorem ptSingle (n : BitVec 4) (h f : Bool) : Statement (.ptSingle n h f) := fun _ => rfl
theorem ptBatch (n : BitVec 4) (h f : Bool) : Statement (.ptBatch n h f) := fun _ => rfl
theorem addr (c : Byte) : Statement (.addr c) := fun _ => rfl
theorem pl (c : Byte) : Statement (.pl c) := fun _ => rfl
theorem ckh (c : Byte) : Statement (.ckh c) := fun _ => rfl
theorem ckl (c : Byte) : Statement (.ckl c) := fun _ => rfl
theorem decFw : Statement .decFw := fun _ => rfl
theorem decHealth : Statement .decHealth := fun _ => rfl
theorem decEuler : Statement .decEuler := fun _ => rfl
theorem decGyro : Statement .decGyro := fun _ => rfl
theorem decNop : Statement .decNop := fun _ => rfl
theorem reset : Statement .reset := fun _ => rfl
theorem fwConsume : Statement .fwConsume := fun _ => rfl
theorem resync : Statement .resync := fun _ => rfl
theorem idle : Statement .idle := fun _ => rfl
theorem cmd (a : Byte) : Statement (.cmd a) := fun _ => rfl

end Sys2Proof.Laws.EncodedFormat
end

