-- ==== Sys2Proof/Tests/Slice0.lean ====
section
/-! SUPPORT. The model's own tests: the smoke of `WellFormed`, words written out from the encodings of the spec, small steps with results from 95_test_vectors.md, and for every statement with hypotheses a witness that meets them. -/

namespace Sys2Proof.Machine.Tests

-- One theorem at a time: so many evaluations at once would each take a thread.
set_option Elab.async false

/-! ## Helpers -/

/-- The buffer that holds these bytes from index `k` on, in canonical form. -/
def cells (k : Nat) : List Byte → List Host.Cell
  | [] => []
  | b :: bytes => if b = 0x00#8 then cells (k + 1) bytes else (k, b) :: cells (k + 1) bytes

/-- The reset state, but for the parser state, the index and the Packet registers named. -/
def packet (st : ParserState) (pt a : Byte) (idx : BitVec 6) (payload : List Byte) (c1 : Byte) : State :=
  { State.reset with state := st, packetType := pt, address := a, idx := idx, data := cells 0 payload, checksum1 := c1 }

/-- The reset state with the parser in `st`. -/
def parserAt (st : ParserState) : State := { State.reset with state := st }

/-- `s` with these ports on its inputs. -/
def withPorts (s : State) (ps : List Ports) : State := { s with inputs := ps }

/-- The outcome is a next state of which `p` holds. -/
def holds (o : Outcome) (p : State → Bool) : Bool :=
  match o with
  | .next t => p t
  | .fault _ => false
  | .refused _ => false

/-! ## WellFormed: one ill-formed term for each check -/

theorem test_wellFormed_zSkip : (Instr.zSkip 0x73#8).wellFormed = false ∧ (Instr.zSkip 0x72#8).wellFormed = true := by decide
theorem test_wellFormed_sMiss : (Instr.sMiss 0x6E#8).wellFormed = false ∧ (Instr.sMiss 0x73#8).wellFormed = true := by decide
theorem test_wellFormed_snMiss : (Instr.snMiss 0x70#8).wellFormed = false ∧ (Instr.snMiss 0x73#8).wellFormed = true := by
  decide

/-! ## Decode: a word of every row, from 30_encoding.md R95 and 45_command_frames.md T36 -/

theorem test_decode_zS : decode Config.reference (.stream .zero 0b01110011#8) = .ok .zS := rfl
theorem test_decode_zSkip : decode Config.reference (.stream .zero 0b01111000#8) = .ok (.zSkip 0x78#8) := rfl
theorem test_decode_sN : decode Config.reference (.stream .syncS 0b01101110#8) = .ok .sN := rfl
theorem test_decode_sMiss : decode Config.reference (.stream .syncS 0b01110011#8) = .ok (.sMiss 0x73#8) := rfl
theorem test_decode_snP : decode Config.reference (.stream .syncSn 0b01110000#8) = .ok .snP := rfl
theorem test_decode_snMiss : decode Config.reference (.stream .syncSn 0b00000000#8) = .ok (.snMiss 0x00#8) := rfl
/-- R130's corner case, 0x7C: `is_batch = 1`, `batch_length = 15`; and 0x01: `command_failed`. -/
theorem test_decode_ptNodata :
    decode Config.reference (.stream .syncSnp 0b01111100#8) = .ok (.ptNodata true 15#4 false false) ∧
    decode Config.reference (.stream .syncSnp 0b00000001#8) = .ok (.ptNodata false 0#4 false true) := ⟨rfl, rfl⟩
/-- T18's type 0x83 and R131's corner case 0xBC. -/
theorem test_decode_ptSingle :
    decode Config.reference (.stream .syncSnp 0b10000011#8) = .ok (.ptSingle 0#4 true true) ∧
    decode Config.reference (.stream .syncSnp 0b10111100#8) = .ok (.ptSingle 15#4 false false) := ⟨rfl, rfl⟩
/-- T15's type 0xC8 and T14's 0xFF. -/
theorem test_decode_ptBatch :
    decode Config.reference (.stream .syncSnp 0b11001000#8) = .ok (.ptBatch 2#4 false false) ∧
    decode Config.reference (.stream .syncSnp 0b11111111#8) = .ok (.ptBatch 15#4 true true) := ⟨rfl, rfl⟩
theorem test_decode_addr : decode Config.reference (.stream .type 0b01110011#8) = .ok (.addr 0x73#8) := rfl
theorem test_decode_pl : decode Config.reference (.stream .payload 0b01101110#8) = .ok (.pl 0x6E#8) := rfl
theorem test_decode_ckh : decode Config.reference (.stream .checkHigh 0b00000010#8) = .ok (.ckh 0x02#8) := rfl
theorem test_decode_ckl : decode Config.reference (.stream .checkLow 0b11010010#8) = .ok (.ckl 0xD2#8) := rfl
theorem test_decode_decFw : decode Config.reference (.register 0b10101010#8) = .ok .decFw := rfl
theorem test_decode_decHealth : decode Config.reference (.register 0b01010101#8) = .ok .decHealth := rfl
theorem test_decode_decEuler : decode Config.reference (.register 0b01110000#8) = .ok .decEuler := rfl
theorem test_decode_decGyro : decode Config.reference (.register 0b01100001#8) = .ok .decGyro := rfl
/-- T32: `ADDR_EULER + 1` is unmapped. -/
theorem test_decode_decNop : decode Config.reference (.register 0b01110001#8) = .ok .decNop := rfl
/-- T40 (d): `rst` with everything else asserted. -/
theorem test_decode_reset : decode Config.reference (.port ⟨true, true, true, 0x7B#8, true⟩) = .ok .reset := rfl
theorem test_decode_fwConsume : decode Config.reference (.port ⟨false, false, false, 0x00#8, true⟩) = .ok .fwConsume := rfl
theorem test_decode_resync : decode Config.reference (.port ⟨false, true, true, 0x32#8, false⟩) = .ok .resync := rfl
theorem test_decode_idle : decode Config.reference (.port ⟨false, false, false, 0x00#8, false⟩) = .ok .idle := rfl
/-- T36: zero gyroscopes and set magnetic reference. -/
theorem test_decode_cmd :
    decode Config.reference (.sequence [0x73#8, 0x6E#8, 0x70#8, 0x00#8, 0xAD#8, 0x01#8, 0xFE#8]) = .ok (.cmd 0xAD#8) ∧
    decode Config.reference (.sequence [0x73#8, 0x6E#8, 0x70#8, 0x00#8, 0xB0#8, 0x02#8, 0x01#8]) = .ok (.cmd 0xB0#8) :=
  ⟨rfl, rfl⟩

/-- A byte on the ports is decoded under a state, not as a port event; a wrong checksum is no command frame. -/
theorem test_decode_rejects :
    decode Config.reference (.port ⟨false, false, true, 0x73#8, false⟩) = .error .presentsStreamByte ∧
    decode Config.reference (.sequence [0x73#8, 0x6E#8, 0x70#8, 0x00#8, 0xAD#8, 0x01#8, 0xFF#8]) =
      .error .notACommandFrame := ⟨rfl, rfl⟩

/-- The words of the table's rows that have bits, and the row without bits (log entry 11). -/
theorem test_decodeTableWord :
    decodeTableWord 8 0x73 = some .zS ∧ decodeTableWord 8 0x6E = some .sN ∧ decodeTableWord 8 0x70 = some .snP ∧
    decodeTableWord 8 0x00 = some (.ptNodata false 0#4 false false) ∧
    decodeTableWord 8 0x80 = some (.ptSingle 0#4 false false) ∧
    decodeTableWord 8 0xC0 = some (.ptBatch 0#4 false false) ∧ decodeTableWord 0 0 = some .idle ∧
    decodeTableWord 56 0xFE01AD00706E73 = some (.cmd 0xAD#8) ∧ decodeTableWord 16 0 = none := by decide +kernel

/-- The very next step runs the word that `withFetchWord` places. -/
theorem test_withFetchWord :
    holds (step (State.reset.withFetchWord 8 0x73)) (fun t => t.state = .syncS) = true ∧
    holds (step (State.reset.withFetchWord 8 0x70)) (fun t => t.state = .syncSnp) = true ∧
    holds (step (State.reset.withFetchWord 8 0xC4)) (fun t => t.state = .type && t.packetType = 0xC4#8) = true ∧
    holds (step (State.reset.withFetchWord 56 0xFE01AD00706E73)) (fun t => t.state = .syncS && t.inputs.length = 6) =
      true := by decide +kernel

/-! ## Instructions: results from 95_test_vectors.md -/

/-- T1. -/
theorem test_zS : holds (exec .zS State.reset) (fun t => t.state = .syncS && !t.frameDone) = true := by decide +kernel
/-- T2. -/
theorem test_zSkip : holds (exec (.zSkip 0x78#8) State.reset) (fun t => t.state = .zero && !t.frameDone) = true := by
  decide +kernel
/-- T3. -/
theorem test_sN : holds (exec .sN (parserAt .syncS)) (fun t => t.state = .syncSn) = true := by decide +kernel
/-- T4: a second 0x73 goes to `ZERO`, not back to `SYNC_S`. -/
theorem test_sMiss : holds (exec (decodeByte .syncS 0x73#8) (parserAt .syncS)) (fun t => t.state = .zero) = true := by
  decide +kernel
/-- T5. -/
theorem test_snP : holds (exec .snP (parserAt .syncSn)) (fun t => t.state = .syncSnp) = true := by decide +kernel
/-- T6. -/
theorem test_snMiss : holds (exec (decodeByte .syncSn 0x73#8) (parserAt .syncSn)) (fun t => t.state = .zero) = true := by
  decide +kernel
/-- T10: the second 0x70 is a type byte. -/
theorem test_ptNodata :
    holds (exec (decodeByte .syncSnp 0x70#8) (parserAt .syncSnp))
      (fun t => t.state = .type && t.packetType = 0x70#8 && t.length = 0) = true := by decide +kernel
/-- S2's caution: type 0x8C has length 4. -/
theorem test_ptSingle :
    holds (exec (decodeByte .syncSnp 0x8C#8) (parserAt .syncSnp))
      (fun t => t.state = .type && t.packetType = 0x8C#8 && t.length = 4) = true := by decide +kernel
/-- T15: index and address stay. -/
theorem test_ptBatch :
    holds (exec (decodeByte .syncSnp 0xC8#8) (packet .syncSnp 0x00#8 0x70#8 16#6 [] 0x00#8))
      (fun t => t.packetType = 0xC8#8 && t.length = 8 && t.idx = 16#6 && t.address = 0x70#8) = true := by decide +kernel
/-- T16, first case. -/
theorem test_addr_payload :
    holds (exec (.addr 0x70#8) (packet .type 0x80#8 0x00#8 16#6 [] 0x00#8))
      (fun t => t.address = 0x70#8 && t.idx = 0#6 && t.state = .payload) = true := by decide +kernel
/-- T16, second case, a batch of length 0. -/
theorem test_addr_empty :
    holds (exec (.addr 0x70#8) (packet .type 0xC0#8 0x00#8 16#6 [] 0x00#8))
      (fun t => t.address = 0x70#8 && t.idx = 0#6 && t.state = .checkHigh) = true := by decide +kernel
/-- T19, its third byte. -/
theorem test_pl_middle :
    holds (exec (.pl 0x01#8) (packet .payload 0x80#8 0x70#8 2#6 [0x00#8, 0x64#8] 0x00#8))
      (fun t => t.readData 2 = 0x01#8 && t.readData 1 = 0x64#8 && t.idx = 3#6 && t.state = .payload) = true := by
  decide +kernel
/-- T19, its last byte. -/
theorem test_pl_last :
    holds (exec (.pl 0x2C#8) (packet .payload 0x80#8 0x70#8 3#6 [0x00#8, 0x64#8, 0x01#8] 0x00#8))
      (fun t => t.readData 3 = 0x2C#8 && t.idx = 4#6 && t.state = .checkHigh) = true := by decide +kernel
/-- T26: a high byte no checksum has is stored all the same. -/
theorem test_ckh :
    holds (exec (.ckh 0x40#8) (parserAt .checkHigh)) (fun t => t.checksum1 = 0x40#8 && t.state = .checkLow) = true := by
  decide +kernel
/-- S3: roll and pitch from the source's own example, yaw not written. -/
theorem test_ckl_accepts :
    holds (exec (.ckl 0xD2#8) (packet .checkLow 0x80#8 0x70#8 4#6 [0x00#8, 0x64#8, 0x01#8, 0x2C#8] 0x02#8))
      (fun t => t.frameDone && t.frameOk && t.state = .zero && t.roll = 0x3F8CA000#32 && t.pitch = 0x4052F000#32 &&
        t.yaw = 0#32) = true := by decide +kernel
/-- T24: the same frame with its low checksum byte corrupted. -/
theorem test_ckl_rejects :
    holds (exec (.ckl 0xD3#8) (packet .checkLow 0x80#8 0x70#8 4#6 [0x00#8, 0x64#8, 0x01#8, 0x2C#8] 0x02#8))
      (fun t => t.frameDone && !t.frameOk && t.state = .zero && t.checksum0 = 0xD3#8 && t.roll = 0#32) = true := by
  decide +kernel
/-- T27. -/
theorem test_decFw :
    holds (exec .decFw (packet .zero 0x80#8 0xAA#8 4#6 [0x55#8, 0x37#8, 0x31#8, 0x43#8] 0x00#8))
      (fun t => t.firmwareString = #v[0x55#8, 0x37#8, 0x31#8, 0x43#8] && t.newFwString && t.readFirmware 4 = 0x00#8) =
      true := by decide +kernel
/-- T28: bits 8, 5, 4, 3, 2, 1. -/
theorem test_decHealth :
    holds (exec .decHealth (packet .zero 0x80#8 0x55#8 4#6 [0x00#8, 0x00#8, 0x01#8, 0x3E#8] 0x00#8))
      (fun t => t.error = 0x0000013E#32 && serialOverflow t.error && magnetometerInitFailure t.error) = true := by
  decide +kernel
/-- T29d: all six values of a batch of length 4. -/
theorem test_decEuler_full :
    holds (exec .decEuler (packet .zero 0xD0#8 0x70#8 16#6
        [0x00#8, 0x64#8, 0x01#8, 0x2C#8, 0xFF#8, 0x9C#8, 0xAA#8, 0xBB#8,
         0x00#8, 0x0A#8, 0xFF#8, 0xF6#8, 0x7F#8, 0xFF#8, 0xCC#8, 0xDD#8] 0x00#8))
      (fun t => t.roll = 0x3F8CA000#32 && t.pitch = 0x4052F000#32 && t.yaw = 0xBF8CA000#32 &&
        t.rollRate = 0x3DE10000#32 && t.pitchRate = 0xBDE10000#32 && t.yawRate = 0x43B3FE98#32) = true := by decide +kernel
/-- T33: the two extremes; yaw keeps its value. -/
theorem test_decEuler_short :
    holds (exec .decEuler { packet .zero 0x80#8 0x70#8 4#6 [0x80#8, 0x00#8, 0x7F#8, 0xFF#8] 0x00#8 with yaw := 7#32 })
      (fun t => t.roll = 0xC3B40000#32 && t.pitch = 0x43B3FE98#32 && t.yaw = 7#32) = true := by decide +kernel
/-- S4: 1.5, byte-reversed. -/
theorem test_decGyro_one :
    holds (exec .decGyro (packet .zero 0x80#8 0x61#8 4#6 [0x00#8, 0x00#8, 0xC0#8, 0x3F#8, 0x99#8] 0x00#8))
      (fun t => t.gyroX = 0x3FC00000#32 && t.gyroY = 0#32 && t.gyroZ = 0#32) = true := by decide +kernel
/-- T31c: three values; bytes 12 to 15 are not read. -/
theorem test_decGyro_three :
    holds (exec .decGyro (packet .zero 0xD0#8 0x61#8 16#6
        [0x00#8, 0x00#8, 0xC0#8, 0x3F#8, 0x00#8, 0x00#8, 0x00#8, 0xC0#8,
         0x00#8, 0x00#8, 0x20#8, 0x3E#8, 0xDE#8, 0xAD#8, 0xBE#8, 0xEF#8] 0x00#8))
      (fun t => t.gyroX = 0x3FC00000#32 && t.gyroY = 0xC0000000#32 && t.gyroZ = 0x3E200000#32) = true := by decide +kernel
/-- T32: accepted, nothing decoded. -/
theorem test_decNop :
    holds (exec (.ckl 0x56#8) (packet .checkLow 0x80#8 0x71#8 4#6 [0x12#8, 0x34#8, 0x56#8, 0x78#8] 0x03#8))
      (fun t => t.frameOk && t.device = State.reset.device) = true := by decide +kernel
/-- T41. -/
theorem test_reset :
    holds (exec .reset { packet .payload 0x80#8 0xAA#8 2#6 [0x55#8] 0x00#8 with newFwString := true })
      (fun t => t.state = .zero && !t.newFwString && t.readFirmware 4 = 0x00#8 && !t.frameDone) = true := by decide +kernel
/-- T39. -/
theorem test_fwConsume :
    holds (exec .fwConsume { State.reset with newFwString := true, firmwareString := #v[1#8, 2#8, 3#8, 4#8] })
      (fun t => !t.newFwString && t.firmwareString = #v[1#8, 2#8, 3#8, 4#8]) = true := by decide +kernel
/-- T37. -/
theorem test_resync :
    holds (exec .resync (packet .payload 0x80#8 0xAA#8 2#6 [0x55#8, 0x37#8] 0x00#8))
      (fun t => t.state = .zero && t.idx = 2#6 && t.packetType = 0x80#8 && t.readData 1 = 0x37#8) = true := by decide +kernel
/-- T38. -/
theorem test_idle :
    holds (exec .idle (packet .payload 0x80#8 0xAA#8 2#6 [0x55#8, 0x37#8] 0x00#8))
      (fun t => t.state = .payload && t.idx = 2#6 && !t.frameDone) = true := by decide +kernel
/-- T36: zero gyroscopes, an unmapped address. -/
theorem test_cmd_nop :
    holds (exec (.cmd 0xAD#8) State.reset)
      (fun t => t.state = .zero && t.frameOk && t.address = 0xAD#8 && t.checksum1 = 0x01#8 && t.checksum0 = 0xFE#8 &&
        t.device = State.reset.device) = true := by decide +kernel
/-- T36: the firmware request has the firmware address, so the residue is decoded. -/
theorem test_cmd_residue :
    holds (exec (.cmd 0xAA#8) (packet .zero 0x80#8 0x20#8 4#6 [0x41#8, 0x42#8, 0x43#8, 0x44#8] 0x00#8))
      (fun t => t.frameOk && t.newFwString && t.firmwareString = #v[0x41#8, 0x42#8, 0x43#8, 0x44#8]) = true := by
  decide +kernel

/-- T40 (a), (b), (e): set wins; the byte is dropped; a rejected frame leaves the flag cleared. -/
theorem test_priority :
    let s := { packet .checkLow 0x80#8 0xAA#8 4#6 [0x55#8, 0x37#8, 0x31#8, 0x43#8] 0x03#8 with newFwString := true }
    holds (step (withPorts s [⟨false, false, true, 0x7B#8, true⟩])) (fun t => t.frameOk && t.newFwString) = true ∧
    holds (step (withPorts s [⟨false, true, true, 0x7B#8, false⟩]))
      (fun t => t.state = .zero && !t.frameDone && t.newFwString && t.checksum0 = 0x00#8) = true ∧
    holds (step (withPorts s [⟨false, false, true, 0x7C#8, true⟩]))
      (fun t => t.frameDone && !t.frameOk && !t.newFwString) = true := by decide +kernel

/-- T30: four rows of the reference table, one of them off the round numbers. -/
theorem test_eulerReference :
    eulerReference 0x0001#16 = 0x3C340000#32 ∧ eulerReference 0x238E#16 = 0x42C7FEC0#32 ∧
    eulerReference 0x2C01#16 = 0x42F785A0#32 ∧ eulerReference 0xC000#16 = 0xC3340000#32 := by decide +kernel

/-! ## Witnesses: for every statement with hypotheses, concrete values that meet them all, each clause at a boundary -/

/-- A state whose buffer holds sixty bytes 0xFF, the longest and heaviest frame (T23), its high checksum byte received. -/
def heaviest (st : ParserState) : State := packet st 0xFF#8 0xFF#8 60#6 (List.replicate 60 0xFF#8) 0x3F#8

/-- The S3 frame up to its low checksum byte. -/
def eulerFrame : State := packet .checkLow 0x80#8 0x70#8 4#6 [0x00#8, 0x64#8, 0x01#8, 0x2C#8] 0x02#8

/-- The T27 frame up to its low checksum byte. -/
def firmwareFrame : State := packet .checkLow 0x80#8 0xAA#8 4#6 [0x55#8, 0x37#8, 0x31#8, 0x43#8] 0x03#8

/-- A payload at its first byte, the shortest length. -/
def firstByte : State := packet .payload 0x80#8 0x70#8 0#6 [] 0x00#8

/-- A payload at its last byte, the longest length. -/
def lastByte : State := packet .payload 0xFF#8 0xFF#8 59#6 (List.replicate 59 0xFF#8) 0x00#8

/-- A payload-less frame to `a`, its low checksum byte awaited, with residue in the buffer. -/
def emptyFrame (a c1 : Byte) : State := packet .checkLow 0x00#8 a 0#6 [0x00#8, 0x00#8, 0x01#8, 0x3E#8] c1

/-- Parameters with a different `EulerScaleFn`: the binary32 quotient's last place at the raw value 1 (R187 (c)). -/
def otherConfig : Config := { Config.reference with eulerTable := [(0x0001#16, 0x3C340001#32)] }

theorem inv_of_checks {s : State} (h1 : validConfig s.config = true) (h2 : Memory.wf s.data = true)
    (h3 : (decide (s.state = .payload → s.idx.toNat < s.length) &&
      decide (s.state = .checkHigh ∨ s.state = .checkLow → s.idx.toNat = s.length)) = true) : StateInv s := by
  simp only [Bool.and_eq_true, decide_eq_true_eq] at h3
  exact ⟨h1, h2, h3.1, h3.2⟩

theorem inv_firstByte : StateInv firstByte := inv_of_checks (by decide +kernel) (by decide +kernel) (by decide +kernel)
theorem inv_lastByte : StateInv lastByte := inv_of_checks (by decide +kernel) (by decide +kernel) (by decide +kernel)
theorem inv_eulerFrame : StateInv eulerFrame := inv_of_checks (by decide +kernel) (by decide +kernel) (by decide +kernel)

theorem witness_EveryByteInEveryStateHasExactlyOneRule :
    (Instr.zSkip 0x78#8).wellFormed = true ∧ encode Config.reference (.zSkip 0x78#8) = .stream .zero 0x78#8 ∧
    Instr.zS.wellFormed = true ∧ encode Config.reference .zS = .stream .zero 0x73#8 := by decide

theorem witness_DecodeEncodeRoundTrip :
    Config.reference.addressesDistinct = true ∧ (Instr.snMiss 0x73#8).wellFormed = true ∧
    decode Config.reference (encode Config.reference (.snMiss 0x73#8)) = .ok (.snMiss 0x73#8) :=
  ⟨by decide, by decide, rfl⟩

theorem witness_AddressSelectsTheDecoder :
    Config.reference.addressesDistinct = true ∧ selectField Config.reference 0xAA#8 = .fw ∧
    selectField Config.reference 0x55#8 = .health ∧ selectField Config.reference 0x70#8 = .euler ∧
    selectField Config.reference 0x61#8 = .gyro ∧ selectField Config.reference 0x62#8 = .nop := by decide

/-- T14's lengths at the ends of each clause, and the bounds 2 and 15 of the count. -/
theorem witness_DataLengthFunction :
    dataLength 0x7F#8 = 0 ∧ dataLength 0x80#8 = 4 ∧ dataLength 0xBF#8 = 4 ∧ dataLength 0xC0#8 = 0 ∧ dataLength 0xFF#8 = 60 ∧
    ((List.range 256).countP fun n => dataLength (BitVec.ofNat 8 n) = 4 * 2) = 4 ∧
    ((List.range 256).countP fun n => dataLength (BitVec.ofNat 8 n) = 4 * 15) = 4 := by decide +kernel

theorem witness_SyncCharactersAdvance :
    (parserAt .zero).state = .zero ∧
    (∃ t, exec (decodeByte .zero 0x73#8) (parserAt .zero) = .next t ∧ t.state = .syncS) ∧
    (∃ t, exec (decodeByte .zero 0x72#8) (parserAt .zero) = .next t ∧ t.state = .zero) ∧
    (∃ t, step (withPorts eulerFrame [.ofByte 0xD3#8]) = .next t ∧ t.state = .zero) ∧
    (∃ t, step (withPorts firstByte [⟨false, true, false, 0x00#8, false⟩]) = .next t ∧ t.state = .zero) ∧
    ∃ t, step (withPorts firstByte [⟨true, false, false, 0x00#8, false⟩]) = .next t ∧ t.state = .zero :=
  ⟨rfl, ⟨_, rfl, rfl⟩, ⟨_, rfl, rfl⟩, ⟨_, rfl, rfl⟩, ⟨_, rfl, rfl⟩, ⟨_, rfl, rfl⟩⟩

theorem witness_SyncMismatchesReturnToZero :
    decodeByte .zero 0x6E#8 = .zSkip 0x6E#8 ∧ decodeByte .syncS 0x73#8 = .sMiss 0x73#8 ∧
    decodeByte .syncSn 0x73#8 = .snMiss 0x73#8 ∧ decodeByte .syncSn 0x6E#8 = .snMiss 0x6E#8 := by decide

/-- T9's end, T12's start and T13's start, and a byte that begins nothing. -/
theorem witness_SynchronisationDetector :
    holds (feed [0x73#8, 0x6E#8, 0x70#8] State.reset) (fun t => t.state = .syncSnp) = true ∧
    holds (feed [0x73#8, 0x73#8] State.reset) (fun t => t.state = .zero) = true ∧
    holds (feed [0x73#8, 0x6E#8, 0x73#8] State.reset) (fun t => t.state = .zero) = true ∧
    holds (feed [0x6E#8] State.reset) (fun t => t.state = .zero) = true := by decide +kernel

/-- The ends of the three ranges of the type byte. -/
theorem witness_TypeByteIsRecorded :
    decodeByte .syncSnp 0x00#8 = .ptNodata false 0#4 false false ∧
    decodeByte .syncSnp 0x7F#8 = .ptNodata true 15#4 true true ∧
    decodeByte .syncSnp 0x80#8 = .ptSingle 0#4 false false ∧ decodeByte .syncSnp 0xBF#8 = .ptSingle 15#4 true true ∧
    decodeByte .syncSnp 0xC0#8 = .ptBatch 0#4 false false ∧ decodeByte .syncSnp 0xFF#8 = .ptBatch 15#4 true true := by
  decide

theorem witness_AddressByteIsRecorded :
    dataLength (packet .type 0xC3#8 0x00#8 0#6 [] 0x00#8).packetType = 0 ∧
    dataLength (packet .type 0xC4#8 0x00#8 0#6 [] 0x00#8).packetType = 4 := by decide +kernel

theorem witness_PayloadByteIsStored :
    (StateInv firstByte ∧ firstByte.state = .payload ∧ firstByte.idx.toNat = 0) ∧
    (StateInv lastByte ∧ lastByte.state = .payload ∧ lastByte.idx.toNat = 59 ∧
      holds (exec (.pl 0xFF#8) lastByte) (fun t => t.state = .checkHigh && t.idx = 60#6 && t.readData 60 = 0x00#8) = true) :=
  ⟨⟨inv_firstByte, rfl, rfl⟩, ⟨inv_lastByte, rfl, rfl, by decide +kernel⟩⟩

theorem witness_BufferTailIsNeverWritten :
    StateInv (withPorts lastByte [.ofByte 0xFF#8]) ∧ (withPorts lastByte [.ofByte 0xFF#8]).sampledPorts.rst = false ∧
    ∃ t, step (withPorts lastByte [.ofByte 0xFF#8]) = .next t ∧ t.readData 60 = 0x00#8 ∧ t.readData 59 = 0xFF#8 :=
  ⟨inv_of_checks (by decide +kernel) (by decide +kernel) (by decide +kernel), rfl, _, rfl, by decide +kernel, by decide +kernel⟩

theorem witness_LowChecksumByteAcceptsOrRejects :
    eulerFrame.checksum1.toNat * 256 + (0xD2#8).toNat =
      (computedChecksum eulerFrame.packetType eulerFrame.address eulerFrame.data).toNat ∧
    eulerFrame.checksum1.toNat * 256 + (0xD3#8).toNat ≠
      (computedChecksum eulerFrame.packetType eulerFrame.address eulerFrame.data).toNat := by decide +kernel

/-- T23: the smallest and the largest checksum are those of valid Packets. -/
theorem witness_ChecksumNeverWraps :
    State.packetValid { packet .zero 0x00#8 0x00#8 0#6 [] 0x01#8 with checksum0 := 0x51#8 } = true ∧
    State.packetValid { heaviest .zero with checksum0 := 0x13#8 } = true := by decide +kernel

theorem witness_PacketValidity :
    State.packetValid { eulerFrame with checksum0 := 0xD2#8 } = true ∧
    State.packetValid { eulerFrame with checksum0 := 0xD3#8 } = false := by decide +kernel

theorem witness_DeviceStateIsWrittenOnlyByAcceptedFrames :
    ∃ t, step (withPorts firmwareFrame [.ofByte 0x7B#8]) = .next t ∧
      (withPorts firmwareFrame [.ofByte 0x7B#8]).sampledPorts.rst = false ∧
      t.device ≠ { firmwareFrame.device with newFwString := false } ∧ t.packetValid = true :=
  ⟨_, rfl, rfl, by decide +kernel, by decide +kernel⟩

theorem witness_ChecksumMismatchIsReported :
    (eulerFrame.state = .checkLow ∧ eulerFrame.checksum1.toNat * 256 + (0xD1#8).toNat ≠
      (computedChecksum eulerFrame.packetType eulerFrame.address eulerFrame.data).toNat) ∧
    (heaviest .checkHigh).state ≠ .checkLow ∧
    (∃ t, exec (decodeByte .checkHigh 0x3F#8) (heaviest .checkHigh) = .next t ∧ t.frameDone = false) ∧
    (∃ t, step (withPorts eulerFrame [.ofByte 0xD1#8]) = .next t ∧ t.frameDone = true ∧ t.frameOk = false) ∧
    (∃ t, step (withPorts eulerFrame [.ofByte 0xD2#8]) = .next t ∧ t.frameDone = true ∧ t.frameOk = true) ∧
    ∃ t, step (withPorts eulerFrame [⟨false, true, true, 0xD1#8, false⟩]) = .next t ∧ t.frameDone = false :=
  ⟨⟨rfl, by decide +kernel⟩, by decide, ⟨_, rfl, rfl⟩, ⟨_, rfl, by decide +kernel, by decide +kernel⟩,
    ⟨_, rfl, by decide +kernel, by decide +kernel⟩, _, rfl, rfl⟩

/-- The lengths at which each conditional register of the Euler and gyro decoders is first written. -/
theorem witness_EulerDecode :
    dataLength 0xC4#8 = 4 ∧ dataLength 0xC8#8 = 8 ∧ dataLength 0xCC#8 = 12 ∧ dataLength 0xD0#8 = 16 ∧
    sext16 (be16 0x7F#8 0xFF#8) = 32767 ∧ sext16 (be16 0x80#8 0x00#8) = -32768 := by decide

theorem witness_UnrecognisedAddressIsANoOp :
    let s := packet .checkLow 0x80#8 0x71#8 4#6 [0x12#8, 0x34#8, 0x56#8, 0x78#8] 0x03#8
    s.address ≠ s.config.addrFw ∧ s.address ≠ s.config.addrHealth ∧ s.address ≠ s.config.addrEuler ∧
    s.address ≠ s.config.addrGyro ∧
    s.checksum1.toNat * 256 + (0x56#8).toNat = (computedChecksum s.packetType s.address s.data).toNat := by decide +kernel

theorem witness_DecoderWritesOnlyDeviceState :
    (∀ i < 14, Memory.read [(14, 0x01#8)] i = State.reset.readData i) ∧
    State.newFwString { State.reset with newFwString := true } = true ∧
    (let s' := { eulerFrame with roll := 7#32, yaw := 9#32, address := 0x55#8, data := eulerFrame.data ++ [(14, 0x99#8)] }
     s'.config = eulerFrame.config ∧ s'.packetType = eulerFrame.packetType ∧
     (∀ i < 14, s'.readData i = eulerFrame.readData i) ∧
     holds (exec FieldOp.euler.instr eulerFrame) (fun t => t.roll = 0x3F8CA000#32 && t.yaw = 0#32) = true ∧
     holds (exec FieldOp.euler.instr s') (fun u => u.roll = 0x3F8CA000#32 && u.yaw = 9#32) = true) := by decide +kernel

theorem witness_DecoderReadsOnlyTheFramesOwnBytes :
    4 ≤ dataLength eulerFrame.packetType ∧
    ∀ i < dataLength eulerFrame.packetType,
      Memory.read (eulerFrame.data ++ [(4, 0x99#8)]) i = eulerFrame.readData i := by decide +kernel

/-- R194 for each mapped address: the empty frame's checksum is 0x0151 plus the address. -/
theorem witness_ShortFrameDecodesTheResidue :
    (Config.reference.addressesDistinct = true ∧ dataLength 0x00#8 = 0) ∧
    0x1 * 256 + 0xFB = (computedChecksum 0x00#8 0xAA#8 (emptyFrame 0xAA#8 0x01#8).data).toNat ∧
    0x1 * 256 + 0xA6 = (computedChecksum 0x00#8 0x55#8 (emptyFrame 0x55#8 0x01#8).data).toNat ∧
    0x1 * 256 + 0xC1 = (computedChecksum 0x00#8 0x70#8 (emptyFrame 0x70#8 0x01#8).data).toNat ∧
    0x1 * 256 + 0xB2 = (computedChecksum 0x00#8 0x61#8 (emptyFrame 0x61#8 0x01#8).data).toNat ∧
    holds (exec (.ckl 0xC1#8) (emptyFrame 0x70#8 0x01#8))
      (fun t => t.frameOk && t.roll = 0x00000000#32 && t.pitch = 0x405F9800#32) = true := by decide +kernel

theorem witness_EulerScaleIsWithinTolerance :
    validConfig Config.reference = true ∧ validConfig otherConfig = true ∧
    eulerScale otherConfig 0x0001#16 ≠ eulerScale Config.reference 0x0001#16 := by decide +kernel

theorem witness_IdleChangesNothing :
    let s := withPorts { firstByte with newFwString := true } [⟨false, false, false, 0x73#8, true⟩]
    s.sampledPorts.rst = false ∧ s.sampledPorts.resync = false ∧ s.sampledPorts.byteValid = false ∧
    holds (step s) (fun t => t.state = .payload && !t.newFwString) = true := by decide +kernel

theorem witness_StepPriority :
    (withPorts State.reset [⟨true, true, true, 0x73#8, true⟩]).inputs = [⟨true, true, true, 0x73#8, true⟩] ∧
    holds (step (withPorts (parserAt .syncS) [⟨true, true, true, 0x6E#8, true⟩])) (fun t => t.state = .zero) = true ∧
    holds (step (withPorts (parserAt .syncS) [⟨false, true, true, 0x6E#8, false⟩])) (fun t => t.state = .zero) = true ∧
    holds (step (withPorts (parserAt .syncS) [⟨false, false, true, 0x6E#8, false⟩])) (fun t => t.state = .syncSn) = true ∧
    holds (step (withPorts (parserAt .syncS) [⟨false, false, false, 0x6E#8, false⟩])) (fun t => t.state = .syncS) = true ∧
    State.reset.inputs = [] := by decide +kernel

theorem witness_StepRunsTheDecodedByte :
    (withPorts (parserAt .syncSnp) [.ofByte 0xC8#8]).inputs = Ports.ofByte 0xC8#8 :: [] ∧
    holds (step (withPorts (parserAt .syncSnp) [.ofByte 0xC8#8])) (fun t => t.packetType = 0xC8#8) = true := by
  decide +kernel

theorem witness_SetWinsOverClear :
    let s := withPorts { firmwareFrame with newFwString := true } [⟨false, false, true, 0x7B#8, true⟩]
    s.state = .checkLow ∧ s.sampledPorts = ⟨false, false, true, 0x7B#8, true⟩ ∧ s.address = s.config.addrFw ∧
    s.checksum1.toNat * 256 + (0x7B#8).toNat = (computedChecksum s.packetType s.address s.data).toNat := by decide +kernel

/-- A failure of each class, and a byte that is none. -/
theorem witness_FailuresReturnToZero :
    failureClass (decodeByte .syncSn 0x73#8) (parserAt .syncSn) = some .syncMiss ∧
    failureClass (decodeByte .checkLow 0xD3#8) eulerFrame = some .checksumMismatch ∧
    failureClass (decodeByte .checkLow 0x71#8) (emptyFrame 0x20#8 0x01#8) = some .unknownAddress ∧
    failureClass (decodeByte .checkLow 0xD2#8) eulerFrame = none ∧
    (∃ t, exec (decodeByte .checkLow 0xD3#8) eulerFrame = .next t ∧ t.frameDone = true ∧ t.frameOk = false) ∧
    (∃ t, step (withPorts eulerFrame [.ofByte 0xD2#8]) = .next t ∧ t.frameDone = true) ∧
    ∃ t, step (withPorts firstByte [.ofByte 0xD2#8]) = .next t ∧ t.frameDone = false ∧ t.frameOk = false :=
  ⟨rfl, by decide +kernel, by decide +kernel, by decide +kernel, ⟨_, rfl, rfl, rfl⟩, ⟨_, rfl, by decide +kernel⟩,
    _, rfl, rfl, rfl⟩

theorem witness_SyncProgressIsInvisible :
    (∃ t, exec (decodeByte .zero 0x73#8) (parserAt .zero) = .next t) ∧
    (∃ t, exec (decodeByte .syncS 0x00#8) (parserAt .syncS) = .next t) ∧
    ∃ t, exec (decodeByte .syncSn 0x70#8) (parserAt .syncSn) = .next t := ⟨⟨_, rfl⟩, ⟨_, rfl⟩, ⟨_, rfl⟩⟩

theorem witness_StepKeepsTheInvariant :
    (StateInv (withPorts lastByte [.ofByte 0xFF#8]) ∧
      ∃ t, step (withPorts lastByte [.ofByte 0xFF#8]) = .next t ∧ t.state = .checkHigh ∧ t.idx.toNat = t.length) ∧
    StateInv eulerFrame ∧ ∃ t, step eulerFrame = .next t :=
  ⟨⟨inv_of_checks (by decide +kernel) (by decide +kernel) (by decide +kernel), _, rfl, by decide +kernel, by decide +kernel⟩,
    inv_eulerFrame, _, rfl⟩

theorem witness_CanonicalBuffersAreEqual :
    Memory.wf [(0, 0x01#8), (63, 0xFF#8)] = true ∧
    Memory.wf (Memory.write (Memory.write [] 63 0xFF#8) 0 0x01#8) = true ∧
    ∀ i < 64, Memory.read [(0, 0x01#8), (63, 0xFF#8)] i =
      Memory.read (Memory.write (Memory.write [] 63 0xFF#8) 0 0x01#8) i := by decide +kernel

theorem witness_OnlyPayloadBytesStore :
    (∀ c, Instr.ckl 0xD2#8 ≠ .pl c) ∧ (∀ a, Instr.ckl 0xD2#8 ≠ .cmd a) ∧ Instr.ckl 0xD2#8 ≠ .reset ∧
    ∃ t, exec (.ckl 0xD2#8) eulerFrame = .next t ∧ t.readData 3 = 0x2C#8 :=
  ⟨by simp, by simp, by simp, _, rfl, by decide +kernel⟩

theorem witness_NoInstructionChangesParametersOrInputs :
    ∃ t, exec .reset (withPorts eulerFrame [.quiet]) = .next t ∧ t.inputs = [.quiet] := ⟨_, rfl, rfl⟩

/-- Each Packet register changed by its own writer. -/
theorem witness_PacketRegistersHaveOneWriter :
    Memory.wf firstByte.data = true ∧
    holds (step (withPorts (parserAt .syncSnp) [.ofByte 0xC8#8])) (fun t => t.packetType = 0xC8#8) = true ∧
    holds (step (withPorts (parserAt .type) [.ofByte 0x70#8])) (fun t => t.address = 0x70#8) = true ∧
    holds (step (withPorts (parserAt .checkHigh) [.ofByte 0x02#8])) (fun t => t.checksum1 = 0x02#8) = true ∧
    holds (step (withPorts (parserAt .checkLow) [.ofByte 0x02#8])) (fun t => t.checksum0 = 0x02#8) = true ∧
    holds (step (withPorts firstByte [.ofByte 0x64#8])) (fun t => t.readData 0 = 0x64#8) = true := by decide +kernel

theorem witness_DecodingDependsOnThreeRegisters :
    let s := withPorts firstByte [.ofByte 0x64#8]
    let s' := { s with address := 0x55#8, checksum1 := 0x01#8, error := 1#32 }
    s.state = s'.state ∧ s.idx = s'.idx ∧ s.packetType = s'.packetType ∧ s.sampledPorts = s'.sampledPorts ∧
    s.sampledPorts.rst = false ∧ ∃ t t', step s = .next t ∧ step s' = .next t' ∧ t.idx = t'.idx :=
  ⟨rfl, rfl, rfl, rfl, rfl, _, _, rfl, rfl, rfl⟩

/-- Frames of the least and the greatest length, T17's and T20's. -/
theorem witness_WellFormedFrameIsAccepted :
    State.reset.state = .zero ∧ Memory.wf State.reset.data = true ∧
    ([] : List Byte).length = dataLength 0xC0#8 ∧
    frame 0xC0#8 0x70#8 [] = [0x73#8, 0x6E#8, 0x70#8, 0xC0#8, 0x70#8, 0x02#8, 0x81#8] ∧
    reports (frame 0xC0#8 0x70#8 []) State.reset = [true] ∧
    (List.replicate 60 (0xFF#8 : Byte)).length = dataLength 0xFC#8 ∧
    reports (frame 0xFC#8 0x10#8 (List.replicate 60 0xFF#8)) State.reset = [true] := by decide +kernel

theorem witness_CorruptedChecksumIsRejected :
    State.reset.state = .zero ∧ Memory.wf State.reset.data = true ∧
    ([0x00#8, 0x64#8, 0x01#8, 0x2C#8] : List Byte).length = dataLength 0x80#8 ∧
    0x02D3#16 ≠ frameSum 0x80#8 0x70#8 [0x00#8, 0x64#8, 0x01#8, 0x2C#8] ∧
    reports (frameWith 0x80#8 0x70#8 [0x00#8, 0x64#8, 0x01#8, 0x2C#8] 0x02D3#16) State.reset = [false] ∧
    holds (feed (frameWith 0x80#8 0x70#8 [0x00#8, 0x64#8, 0x01#8, 0x2C#8] 0x02D3#16) State.reset)
      (fun t => t.frameDone && !t.frameOk) = true := by decide +kernel

/-- P2. -/
theorem witness_RecoveryAfterACorruptedChecksum :
    State.reset.state = .zero ∧ Memory.wf State.reset.data = true ∧
    ([0x00#8, 0x00#8, 0x00#8, 0x04#8] : List Byte).length = dataLength 0x80#8 ∧
    0x02D3#16 ≠ frameSum 0x80#8 0x70#8 [0x00#8, 0x64#8, 0x01#8, 0x2C#8] ∧
    reports (frameWith 0x80#8 0x70#8 [0x00#8, 0x64#8, 0x01#8, 0x2C#8] 0x02D3#16 ++
      frame 0x80#8 0x55#8 [0x00#8, 0x00#8, 0x00#8, 0x04#8]) State.reset = [false, true] := by decide +kernel

/-- T42: the longest frame takes 64 bytes from `SYNC_SNP`, one without payload four. -/
theorem witness_FrameEndsAfterItsLength :
    (parserAt .syncSnp).state = .syncSnp ∧ (List.replicate 63 (0xFF#8 : Byte)).length = 3 + dataLength 0xFC#8 ∧
    (reports (0xFC#8 :: List.replicate 63 0xFF#8) (parserAt .syncSnp)).length = 1 ∧
    ([0x20#8, 0x01#8, 0x71#8] : List Byte).length = 3 + dataLength 0x00#8 ∧
    holds (feed [0x00#8, 0x20#8, 0x01#8, 0x71#8] (parserAt .syncSnp)) (fun t => t.state = .zero && t.frameDone) = true := by
  decide +kernel

/-- The bound of 66 is met from `SYNC_S`. -/
theorem witness_ParserReturnsWithinSixtySixBytes :
    StateInv (parserAt .syncS) ∧ (0x6E#8 :: 0x70#8 :: 0xFC#8 :: List.replicate 63 (0xFF#8 : Byte)).length = 66 ∧
    holds (feed (0x6E#8 :: 0x70#8 :: 0xFC#8 :: List.replicate 63 0xFF#8) (parserAt .syncS)) (fun t => t.state = .zero) =
      true :=
  ⟨inv_of_checks (by decide +kernel) (by decide +kernel) (by decide +kernel), by decide, by decide +kernel⟩

theorem witness_ReportsNeedSevenBytes :
    State.reset.state = .zero ∧
    (reports [0x73#8, 0x6E#8, 0x70#8, 0x00#8, 0x20#8, 0x01#8, 0x71#8] State.reset).length = 1 ∧
    reports [0x73#8, 0x6E#8, 0x70#8, 0x00#8, 0x20#8, 0x01#8] State.reset = [] := by decide +kernel

theorem witness_ParseNextStopsAtTheFirstReport :
    (∃ t, parseNext (parserAt .syncSnp) [0x00#8, 0x20#8, 0x01#8, 0x71#8, 0x73#8] = some (t, true, [0x73#8])) ∧
    parseNext State.reset [0x73#8, 0x6E#8] = none := ⟨⟨_, rfl⟩, rfl⟩

/-- T36's two extremes and the addresses at which the high byte changes. -/
theorem witness_CommandFrameLayout :
    commandFrame 0x00#8 = [0x73#8, 0x6E#8, 0x70#8, 0x00#8, 0x00#8, 0x01#8, 0x51#8] ∧
    commandFrame 0xAE#8 = [0x73#8, 0x6E#8, 0x70#8, 0x00#8, 0xAE#8, 0x01#8, 0xFF#8] ∧
    commandFrame 0xAF#8 = [0x73#8, 0x6E#8, 0x70#8, 0x00#8, 0xAF#8, 0x02#8, 0x00#8] ∧
    commandFrame 0xFF#8 = [0x73#8, 0x6E#8, 0x70#8, 0x00#8, 0xFF#8, 0x02#8, 0x50#8] := by decide

theorem witness_CommandFrameIsAccepted :
    State.reset.state = .zero ∧
    holds (exec (.cmd 0xFF#8) State.reset) (fun t => t.frameOk && t.state = .zero && t.checksum0 = 0x50#8) = true := by
  decide +kernel

end Sys2Proof.Machine.Tests
end

section
/-! ## Decoding stream bytes: the selection of R91, and decode against encode on formats B and PT -/

namespace Sys2Proof

/-! ### The type byte: fields and ranges (R23, R95) -/

section TypeByteFields

variable (d b : Bool) (n : BitVec 4) (h f : Bool)

/-- The type byte bit by bit, in the layout of R23. -/
theorem getLsbD_typeByte {i : Nat} (hi : i < 8) :
    (typeByte d b n h f).getLsbD i =
      if i = 0 then f else if i = 1 then h else if i < 6 then n.getLsbD (i - 2) else if i = 6 then b else d := by
  change (BitVec.ofBool d ++ BitVec.ofBool b ++ n ++ BitVec.ofBool h ++ BitVec.ofBool f).getLsbD i = _
  have hlast : i - 7 = 0 := by omega
  simp only [BitVec.getLsbD_append, BitVec.getLsbD_ofBool]
  grind

@[simp] theorem hasData_typeByte : hasData (typeByte d b n h f) = d :=
  getLsbD_typeByte d b n h f (i := 7) (by decide)

@[simp] theorem isBatch_typeByte : isBatch (typeByte d b n h f) = b :=
  getLsbD_typeByte d b n h f (i := 6) (by decide)

@[simp] theorem batchLength_typeByte : batchLength (typeByte d b n h f) = n := by
  ext i hi
  have hne : 2 + i ≠ 1 := by omega
  have hlt : 2 + i < 6 := by omega
  simp [batchLength, getLsbD_typeByte d b n h f (show 2 + i < 8 by omega), hne, hlt, hi]

@[simp] theorem isHidden_typeByte : isHidden (typeByte d b n h f) = h :=
  getLsbD_typeByte d b n h f (i := 1) (by decide)

@[simp] theorem commandFailed_typeByte : commandFailed (typeByte d b n h f) = f :=
  getLsbD_typeByte d b n h f (i := 0) (by decide)

end TypeByteFields

/-- Bit 7 is clear exactly in the lower half of the byte's range. -/
theorem hasData_eq_false_iff (c : Byte) : hasData c = false ↔ c.toNat < 0x80 := by
  have hc := c.isLt
  simp only [hasData, BitVec.getLsbD, Nat.testBit_eq_decide_div_mod_eq, decide_eq_false_iff_not]
  omega

/-- With bit 7 set, bit 6 is clear exactly below 0xC0. -/
theorem isBatch_eq_false_iff {c : Byte} (hd : 0x80 ≤ c.toNat) : isBatch c = false ↔ c.toNat < 0xC0 := by
  have hc := c.isLt
  simp only [isBatch, BitVec.getLsbD, Nat.testBit_eq_decide_div_mod_eq, decide_eq_false_iff_not]
  omega

/-! ### The rule of a byte, state by state (R91) -/

section Rules

variable (c : Byte)

@[simp] theorem decodeByte_zero : decodeByte .zero c = if c = sync0 then .zS else .zSkip c := by
  by_cases hc : c = sync0 <;> simp [decodeByte, classify, ByteClass.instr, hc]

@[simp] theorem decodeByte_syncS : decodeByte .syncS c = if c = sync1 then .sN else .sMiss c := by
  by_cases hc : c = sync1 <;> simp [decodeByte, classify, ByteClass.instr, hc]

@[simp] theorem decodeByte_syncSn : decodeByte .syncSn c = if c = sync2 then .snP else .snMiss c := by
  by_cases hc : c = sync2 <;> simp [decodeByte, classify, ByteClass.instr, hc]

@[simp] theorem decodeByte_syncSnp :
    decodeByte .syncSnp c =
      if hasData c = false then .ptNodata (isBatch c) (batchLength c) (isHidden c) (commandFailed c)
      else if isBatch c = false then .ptSingle (batchLength c) (isHidden c) (commandFailed c)
      else .ptBatch (batchLength c) (isHidden c) (commandFailed c) := by
  cases hd : hasData c <;> cases hb : isBatch c <;> simp [decodeByte, classify, ByteClass.instr, hd, hb]

@[simp] theorem decodeByte_type : decodeByte .type c = .addr c := rfl
@[simp] theorem decodeByte_payload : decodeByte .payload c = .pl c := rfl
@[simp] theorem decodeByte_checkHigh : decodeByte .checkHigh c = .ckh c := rfl
@[simp] theorem decodeByte_checkLow : decodeByte .checkLow c = .ckl c := rfl

/-- In `SYNC_SNP` the range the byte lies in selects the rule (the masks of R95, as numbers). -/
theorem decodeByte_syncSnp_range :
    decodeByte .syncSnp c =
      if c.toNat < 0x80 then .ptNodata (isBatch c) (batchLength c) (isHidden c) (commandFailed c)
      else if c.toNat < 0xC0 then .ptSingle (batchLength c) (isHidden c) (commandFailed c)
      else .ptBatch (batchLength c) (isHidden c) (commandFailed c) := by
  rw [decodeByte_syncSnp]
  by_cases hd : c.toNat < 0x80
  · simp only [hasData_eq_false_iff, hd, if_true]
  · simp only [hasData_eq_false_iff, isBatch_eq_false_iff (Nat.le_of_not_lt hd), hd, if_false]

end Rules

/-! ### Decode against encode on stream bytes -/

/-- The default row of a sync state is decoded only when the byte is not the one the state waits for. -/
theorem wellFormed_decodeByte (st : ParserState) (c : Byte) : (decodeByte st c).wellFormed = true := by
  cases st with
  | zero => by_cases hc : c = sync0 <;> simp [Instr.wellFormed, hc]
  | syncS => by_cases hc : c = sync1 <;> simp [Instr.wellFormed, hc]
  | syncSn => by_cases hc : c = sync2 <;> simp [Instr.wellFormed, hc]
  | syncSnp => cases hd : hasData c <;> cases hb : isBatch c <;> simp [Instr.wellFormed, hd, hb]
  | type | payload | checkHigh | checkLow => rfl

/-- The instruction decoded is encoded as the byte and the state it was decoded from. -/
theorem encode_decodeByte (cfg : Config) (st : ParserState) (c : Byte) :
    encode cfg (decodeByte st c) = .stream st c := by
  cases st with
  | zero => by_cases hc : c = sync0 <;> simp [encode, hc]
  | syncS => by_cases hc : c = sync1 <;> simp [encode, hc]
  | syncSn => by_cases hc : c = sync2 <;> simp [encode, hc]
  | syncSnp =>
    have hfields := Machine.typeByte_fields c
    cases hd : hasData c <;> cases hb : isBatch c <;> rw [hd, hb] at hfields <;> simp [encode, hd, hb, hfields]
  | type | payload | checkHigh | checkLow => rfl

/-- A well-formed instruction encoded as a stream byte is the one that byte decodes to: no other rule takes the byte.
Well-formedness is what keeps a sync state's default row off the byte the state waits for. -/
theorem decodeByte_of_encode {cfg : Config} {i : Instr} {st : ParserState} {c : Byte}
    (hwf : i.wellFormed = true) (henc : encode cfg i = .stream st c) : decodeByte st c = i := by
  cases i with
  | zS | sN | snP | addr | pl | ckh | ckl => cases henc; rfl
  | zSkip | sMiss | snMiss => cases henc; simpa [Instr.wellFormed] using hwf
  | ptNodata | ptSingle | ptBatch => cases henc; simp
  | decFw | decHealth | decEuler | decGyro | decNop | reset | fwConsume | resync | idle | cmd => cases henc

/-- Settles O2: the rule by state and byte, and decode against encode in both directions. -/
theorem everyByteInEveryStateHasExactlyOneRule : Obligations.EveryByteInEveryStateHasExactlyOneRule := by
  unfold Obligations.EveryByteInEveryStateHasExactlyOneRule
  intro cfg st c
  refine ⟨?_, wellFormed_decodeByte st c, encode_decodeByte cfg st c,
    fun i hwf henc => (decodeByte_of_encode hwf henc).symm⟩
  cases st with
  | zero => exact decodeByte_zero c
  | syncS => exact decodeByte_syncS c
  | syncSn => exact decodeByte_syncSn c
  | syncSnp => exact decodeByte_syncSnp_range c
  | type | payload | checkHigh | checkLow => rfl

end Sys2Proof
end

section
/-! ## Synchronisation bytes: the sync mismatch (R121, R123, R125) -/

namespace Sys2Proof.Machine

section SyncMismatch

variable (s : State) (c : Byte)

/-! ### The three rules of a byte the state does not wait for have one effect, the failure of R221 -/

@[simp] theorem exec_zSkip : exec (.zSkip c) s = .next (s.takeFailure .syncMiss) := rfl
@[simp] theorem exec_sMiss : exec (.sMiss c) s = .next (s.takeFailure .syncMiss) := rfl
@[simp] theorem exec_snMiss : exec (.snMiss c) s = .next (s.takeFailure .syncMiss) := rfl

/-- The frame of a sync mismatch: the parser state and the two outputs are all it writes. -/
theorem State.takeFailure_syncMiss_frame :
    s.takeFailure .syncMiss = { s with state := .zero, frameDone := false, frameOk := false } := rfl

end SyncMismatch

/-- Settles O10: each sync state decodes a byte it does not wait for by its default row, and the three default rows
share the frame of a sync mismatch. -/
theorem syncMismatchesReturnToZero : Obligations.SyncMismatchesReturnToZero := by
  unfold Obligations.SyncMismatchesReturnToZero
  refine ⟨fun c hc => ?zero, fun c hc => ?syncS, fun c hc => ?syncSn, fun s c => ?effect⟩
  case zero => exact (decodeByte_zero c).trans (if_neg hc)
  case syncS => exact (decodeByte_syncS c).trans (if_neg hc)
  case syncSn => exact (decodeByte_syncSn c).trans (if_neg hc)
  case effect =>
    rw [exec_zSkip, exec_sMiss, exec_snMiss, State.takeFailure_syncMiss_frame]
    exact ⟨rfl, rfl, rfl⟩

end Sys2Proof.Machine
end

section
/-! ## Header bytes: `data_length` and the recording of the type byte (R130 to R133) -/

namespace Sys2Proof

section TypeByteNumbers

variable (c : Byte)

/-! ### The length fields of the type byte as numbers (R23) -/

theorem hasData_eq_true_iff : hasData c = true ↔ 0x80 ≤ c.toNat := by
  rw [← Bool.not_eq_false, hasData_eq_false_iff, Nat.not_lt]

theorem isBatch_eq_true_iff {c : Byte} (hd : 0x80 ≤ c.toNat) : isBatch c = true ↔ 0xC0 ≤ c.toNat := by
  rw [← Bool.not_eq_false, isBatch_eq_false_iff hd, Nat.not_lt]

theorem toNat_batchLength : (batchLength c).toNat = c.toNat / 4 % 16 := by
  simp [batchLength, Nat.shiftRight_eq_div_pow]

/-! ### `data_length` (R133) -/

/-- The length by the range the byte lies in, the ranges of `decodeByte_syncSnp_range`. -/
theorem dataLength_range :
    dataLength c = if c.toNat < 0x80 then 0 else if c.toNat < 0xC0 then 4 else 4 * (c.toNat / 4 % 16) := by
  unfold dataLength
  by_cases hd : c.toNat < 0x80
  · simp only [hasData_eq_false_iff, hd, if_true]
  · simp only [hasData_eq_false_iff, isBatch_eq_false_iff (Nat.le_of_not_lt hd), toNat_batchLength, hd, if_false]

theorem dataLength_of_noData {c : Byte} (h : c.toNat < 0x80) : dataLength c = 0 :=
  (dataLength_range c).trans (if_pos h)

theorem dataLength_of_single {c : Byte} (hd : 0x80 ≤ c.toNat) (hs : c.toNat < 0xC0) : dataLength c = 4 := by
  rw [dataLength_range, if_neg (Nat.not_lt.2 hd), if_pos hs]

theorem dataLength_of_batch {c : Byte} (hb : 0xC0 ≤ c.toNat) : dataLength c = 4 * (c.toNat / 4 % 16) := by
  have hd : ¬ c.toNat < 0x80 := by omega
  rw [dataLength_range, if_neg hd, if_neg (Nat.not_lt.2 hb)]

/-- `MAX_DATA_LEN`: a batch length has four bits (R134). -/
theorem dataLength_le : dataLength c ≤ 60 := by
  rw [dataLength_range]
  split_ifs <;> omega

end TypeByteNumbers

end Sys2Proof

namespace Sys2Proof.Machine

/-- Settles O7: the two divisions test the byte's range, and the bound follows from the batch length's four bits. -/
theorem dataLengthFunction : Obligations.DataLengthFunction := by
  unfold Obligations.DataLengthFunction
  intro pt
  have hle := dataLength_le pt
  refine ⟨?value, by omega, hle⟩
  have hdata : pt.toNat / 128 = 0 ↔ pt.toNat < 0x80 := by omega
  rw [dataLength_range]
  by_cases hd : pt.toNat < 0x80
  · rw [if_pos hd, if_pos (hdata.2 hd)]
  · have hpt := pt.isLt
    have hbatch : pt.toNat / 64 % 2 = 0 ↔ pt.toNat < 0xC0 := by omega
    simp only [hdata, hbatch, hd, if_false]

section TypeByte

variable (s : State) (c : Byte)

/-! ### The type byte is recorded (R130 to R132) -/

/-- The frame of a type byte: the packet type, the parser state and the two outputs are all it writes. -/
theorem State.recordType_frame :
    s.recordType c = { s with packetType := c, state := .type, frameDone := false, frameOk := false } := rfl

@[simp] theorem exec_ptNodata (b : Bool) (n : BitVec 4) (h f : Bool) :
    exec (.ptNodata b n h f) s = .next (s.recordType (typeByte false b n h f)) := rfl
@[simp] theorem exec_ptSingle (n : BitVec 4) (h f : Bool) :
    exec (.ptSingle n h f) s = .next (s.recordType (typeByte true false n h f)) := rfl
@[simp] theorem exec_ptBatch (n : BitVec 4) (h f : Bool) :
    exec (.ptBatch n h f) s = .next (s.recordType (typeByte true true n h f)) := rfl

/-- Whichever of the three rules takes the byte, the byte itself is recorded: its row fixes bits 7 and 6 and its operands
carry the rest. -/
theorem exec_decodeByte_syncSnp : exec (decodeByte .syncSnp c) s = .next (s.recordType c) := by
  have hfields := typeByte_fields c
  rw [decodeByte_syncSnp]
  cases hd : hasData c <;> cases hb : isBatch c <;> rw [hd, hb] at hfields <;> simp [hfields]

end TypeByte

/-- Settles O12: the byte's range selects the rule and the length, and all three rules record the byte. -/
theorem typeByteIsRecorded : Obligations.TypeByteIsRecorded := by
  unfold Obligations.TypeByteIsRecorded
  intro s c
  have hrec := exec_decodeByte_syncSnp s c
  rw [State.recordType_frame] at hrec
  have hdec := decodeByte_syncSnp_range c
  refine ⟨fun hn => ?nodata, fun hd hs => ?single, fun hb => ?batch⟩
  case nodata =>
    rw [if_pos hn] at hdec
    exact ⟨hdec, hdec ▸ hrec, (hasData_eq_false_iff c).2 hn, dataLength_of_noData hn⟩
  case single =>
    rw [if_neg (Nat.not_lt.2 hd), if_pos hs] at hdec
    exact ⟨hdec, hdec ▸ hrec, (hasData_eq_true_iff c).2 hd, (isBatch_eq_false_iff hd).2 hs, dataLength_of_single hd hs⟩
  case batch =>
    have hd : 0x80 ≤ c.toNat := by omega
    rw [if_neg (Nat.not_lt.2 hd), if_neg (Nat.not_lt.2 hb)] at hdec
    exact ⟨hdec, hdec ▸ hrec, (hasData_eq_true_iff c).2 hd, (isBatch_eq_true_iff hd).2 hb, dataLength_of_batch hb⟩

end Sys2Proof.Machine
end

section
/-! ## Payload bytes: the store at the index and the way to `CHECK_HIGH` (R150) -/

namespace Sys2Proof

/-- A payload is whole four-byte units (R134). -/
theorem four_dvd_dataLength (c : Byte) : 4 ∣ dataLength c := by
  rw [dataLength_range]
  split_ifs
  · exact dvd_zero 4
  · exact dvd_rfl
  · exact Nat.dvd_mul_right 4 _

end Sys2Proof

namespace Sys2Proof.Machine

section PayloadByte

variable (s : State) (c : Byte)

@[simp] theorem exec_pl :
    exec (.pl c) s =
      .next ((s.storePayload c).goto (if s.idx.toNat + 1 = s.length then .checkHigh else .payload)).noReport := rfl

/-- The frame of a payload byte: the buffer, the index, the parser state and the two outputs are all it writes. -/
theorem State.storePayload_goto_noReport_frame (st : ParserState) :
    ((s.storePayload c).goto st).noReport =
      { s with data := (s.storePayload c).data, idx := s.idx + 1#6, state := st, frameDone := false, frameOk := false } :=
  rfl

/-! ### The buffer: the byte at the index, every other byte as it was -/

@[simp] theorem State.readData_goto_noReport (st : ParserState) (i : Nat) :
    (s.goto st).noReport.readData i = s.readData i := rfl

theorem State.readData_storePayload {s : State} (hwf : Memory.wf s.data = true) (i : Nat) :
    (s.storePayload c).readData i = if i = s.idx.toNat then c else s.readData i :=
  State.readData_memWrite hwf s.idx c i

/-! ### The index -/

/-- Below the largest length the 6-bit index does not wrap (log entry 10). -/
theorem State.toNat_storePayload_idx {s : State} (hidx : s.idx.toNat ≤ 59) :
    (s.storePayload c).idx.toNat = s.idx.toNat + 1 := by
  have hlt : s.idx.toNat + 1 < 2 ^ 6 := by omega
  exact BitVec.toNat_add_of_lt hlt

/-- While a payload is received some byte is still to come, so the length is not 0 (R43). -/
theorem StateInv.four_le_length {s : State} (hinv : StateInv s) (hst : s.state = .payload) : 4 ≤ s.length := by
  have hlt := hinv.payload hst
  exact Nat.le_of_dvd (by omega) (four_dvd_dataLength s.packetType)

theorem StateInv.idx_le_of_payload {s : State} (hinv : StateInv s) (hst : s.state = .payload) : s.idx.toNat ≤ 59 := by
  have hlt : s.idx.toNat < dataLength s.packetType := hinv.payload hst
  have hle := dataLength_le s.packetType
  omega

end PayloadByte

/-- Settles O15: the store and its frame are the rule's own, and at a step boundary the invariant keeps the index below
a length of 4 to 60. -/
theorem payloadByteIsStored : Obligations.PayloadByteIsStored := by
  unfold Obligations.PayloadByteIsStored
  refine ⟨decodeByte_payload, fun s c => ⟨_, exec_pl s c, s.storePayload_goto_noReport_frame c _, ?store, ?bounds⟩⟩
  case store =>
    intro hwf i
    rw [State.readData_goto_noReport, State.readData_storePayload c hwf]
  case bounds =>
    intro hinv hst
    have hidx := hinv.idx_le_of_payload hst
    exact ⟨hinv.four_le_length hst, hidx, State.toNat_storePayload_idx c hidx⟩

end Sys2Proof.Machine
end

section
/-! ## Checksum bytes: the computed sum, the recorded bytes and the terminal action (R160 to R165) -/

namespace Sys2Proof.Machine

/-! ### The sum and the transmitted bytes as numbers (R162, R163) -/

theorem payloadSum_eq_sum_range (m : List Host.Cell) (n : Nat) :
    payloadSum m n = ((List.range n).map fun i => (Memory.read m i).toNat).sum := by
  induction n with
  | zero => rfl
  | succ n ih => rw [payloadSum, ih, List.sum_range_succ]

theorem toNat_be16 (hi lo : Byte) : (be16 hi lo).toNat = hi.toNat * 2 ^ 8 + lo.toNat := by
  rw [be16, BitVec.toNat_append, ← Nat.shiftLeft_add_eq_or_of_lt lo.isLt, Nat.shiftLeft_eq]

theorem be16_eq_iff {hi lo : Byte} {v : Half} : be16 hi lo = v ↔ hi.toNat * 2 ^ 8 + lo.toNat = v.toNat := by
  rw [← BitVec.toNat_inj, toNat_be16]

theorem State.packetValid_iff {s : State} : s.packetValid = true ↔ be16 s.checksum1 s.checksum0 = s.checksum :=
  beq_iff_eq

/-- Settles O19: the model's recursion over the payload is the sum over the indices below `data_length`. -/
theorem computedChecksumIsTheSum : Obligations.ComputedChecksumIsTheSum := by
  unfold Obligations.ComputedChecksumIsTheSum
  intro pt a m
  have hsync : syncSum = 0x73 + 0x6E + 0x70 := rfl
  rw [computedChecksum, BitVec.toNat_ofNat, payloadSum_eq_sum_range, hsync]

/-- Settles O20: the comparison of the two 16-bit words is one of their values. -/
theorem packetValidity : Obligations.PacketValidity := by
  unfold Obligations.PacketValidity
  intro s
  exact State.packetValid_iff.trans be16_eq_iff

/-! ### The high byte (R160) -/

@[simp] theorem exec_ckh (s : State) (c : Byte) :
    exec (.ckh c) s = .next ((s.setChecksum1 c).goto .checkLow).noReport := rfl

/-- Settles O17: `CKH` has one effect, whatever the byte. -/
theorem highChecksumByteIsRecorded : Obligations.HighChecksumByteIsRecorded := by
  unfold Obligations.HighChecksumByteIsRecorded
  exact ⟨decodeByte_checkHigh, exec_ckh⟩

/-! ### The low byte and the terminal action (R161) -/

/-- The terminal action on a completed Packet (R161): a valid one is decoded and reported `Accept`, any other reported
`Reject`. -/
def State.conclude (s : State) : State :=
  if s.packetValid = true then (s.fieldDecode.goto .zero).reportAccept else s.takeFailure .checksumMismatch

/-- `CKL` records its byte and concludes the Packet that this completes. -/
@[simp] theorem exec_ckl (s : State) (c : Byte) : exec (.ckl c) s = .next (s.setChecksum0 c).conclude := by
  change execCkl c s = _
  have hvalid : (s.setChecksum0 c).packetValid = true ↔ be16 s.checksum1 c = s.checksum := State.packetValid_iff
  by_cases h : be16 s.checksum1 c = s.checksum
  · rw [execCkl, if_pos h, State.conclude, if_pos (hvalid.2 h)]
  · rw [execCkl, if_neg h, State.conclude, if_neg (mt hvalid.1 h)]

section Conclude

variable {s : State}

theorem State.conclude_of_valid (h : s.packetValid = true) :
    s.conclude = { s.fieldDecode with state := .zero, frameDone := true, frameOk := true } := if_pos h

theorem State.conclude_of_invalid (h : ¬ s.packetValid = true) :
    s.conclude = { s with state := .zero, frameDone := true, frameOk := false } := if_neg h

variable (s)

@[simp] theorem State.conclude_state : s.conclude.state = .zero := by
  unfold State.conclude; split <;> rfl
@[simp] theorem State.conclude_packetType : s.conclude.packetType = s.packetType := by
  unfold State.conclude; split <;> simp
@[simp] theorem State.conclude_address : s.conclude.address = s.address := by
  unfold State.conclude; split <;> simp
@[simp] theorem State.conclude_data : s.conclude.data = s.data := by
  unfold State.conclude; split <;> simp
@[simp] theorem State.conclude_checksum1 : s.conclude.checksum1 = s.checksum1 := by
  unfold State.conclude; split <;> simp
@[simp] theorem State.conclude_checksum0 : s.conclude.checksum0 = s.checksum0 := by
  unfold State.conclude; split <;> simp
@[simp] theorem State.conclude_frameDone : s.conclude.frameDone = true := by
  unfold State.conclude; split <;> rfl
@[simp] theorem State.conclude_frameOk : s.conclude.frameOk = s.packetValid := by
  unfold State.conclude; split <;> simp_all

/-- The Packet stands after the terminal action as it was judged. -/
@[simp] theorem State.conclude_packetValid : s.conclude.packetValid = s.packetValid := by
  simp [State.packetValid, State.rxChecksum, State.checksum]

/-- The instruction the address selects is the Field Decoder's operation (R180). -/
theorem exec_selectField_instr : exec (selectField s.config s.address).instr s = .next s.fieldDecode := by
  unfold State.fieldDecode
  cases selectField s.config s.address <;> rfl

end Conclude

/-- Settles O18: the two bytes give the computed checksum exactly when the completed Packet is valid. -/
theorem lowChecksumByteAcceptsOrRejects : Obligations.LowChecksumByteAcceptsOrRejects := by
  unfold Obligations.LowChecksumByteAcceptsOrRejects
  refine ⟨decodeByte_checkLow, fun s c => ?_⟩
  have hvalid : (s.setChecksum0 c).packetValid = true ↔
      s.checksum1.toNat * 256 + c.toNat = (computedChecksum s.packetType s.address s.data).toNat :=
    State.packetValid_iff.trans be16_eq_iff
  rw [exec_ckl]
  refine ⟨fun heq => ?accept, fun hne => ?reject⟩
  case accept =>
    refine ⟨_, exec_selectField_instr (s.setChecksum0 c), ?_⟩
    rw [State.conclude_of_valid (hvalid.2 heq)]
  case reject =>
    rw [State.conclude_of_invalid (mt hvalid.1 hne)]
    rfl

/-! ### Who writes the Device State (R165) -/

/-- Before the byte of a step, only `fw_consume` has touched the Device State: the dirty flag. -/
theorem State.afterConsume_device (s : State) :
    s.afterConsume.device =
      { s.device with newFwString := if s.sampledPorts.fwConsume = true then false else s.newFwString } := by
  simp [State.device]

/-- Only the low checksum byte's rule runs the Field Decoder. -/
theorem consumeByte_device_of_not_checkLow {c : Byte} {s t : State} (hst : s.state ≠ .checkLow)
    (h : consumeByte c s = .next t) : t.device = s.device := by
  obtain ⟨-, rfl⟩ | ⟨-, rfl⟩ | ⟨-, rfl⟩ | ⟨-, rfl⟩ | ⟨-, rfl⟩ | ⟨-, rfl⟩ | ⟨-, rfl⟩ | ⟨hlow, -⟩ | ⟨hlow, -⟩ :=
    consumeByte_cases h
  iterate 7 rfl
  iterate 2 exact absurd hlow hst

/-- A consumed byte keeps the Device State, or is the low checksum byte of a Packet accepted as valid. -/
theorem consumeByte_device_cases {c : Byte} {s t : State} (h : consumeByte c s = .next t) :
    t.device = s.device ∨
      s.state = .checkLow ∧ t.frameDone = true ∧ t.frameOk = true ∧ t.packetValid = true := by
  by_cases hst : s.state = .checkLow
  · rw [consumeByte_eq_exec, hst, decodeByte_checkLow, exec_ckl] at h
    cases h
    by_cases hvalid : (s.setChecksum0 c).packetValid = true
    · exact .inr ⟨hst, by simp [hvalid]⟩
    · exact .inl (by rw [State.conclude_of_invalid hvalid]; rfl)
  · exact .inl (consumeByte_device_of_not_checkLow hst h)

/-- Settles O22: of the events of a step without `rst`, only the byte can write the Device State beyond the dirty flag's
clear, and it does so only as the low checksum byte of a valid Packet. -/
theorem deviceStateIsWrittenOnlyByAcceptedFrames : Obligations.DeviceStateIsWrittenOnlyByAcceptedFrames := by
  unfold Obligations.DeviceStateIsWrittenOnlyByAcceptedFrames
  intro s t hstep hrst hne
  rw [← State.afterConsume_device] at hne
  obtain ⟨hreset, -⟩ | ⟨-, -, rfl⟩ | ⟨-, hresync, hvalid, hbyte⟩ | ⟨-, -, -, rfl⟩ := step_cases hstep
  · simp [hreset] at hrst
  · exact absurd rfl hne
  · obtain ⟨hst, haccept⟩ := (consumeByte_device_cases hbyte).resolve_left hne
    exact ⟨s.afterConsume_state ▸ hst, by simp [consumesByte, hrst, hresync, hvalid], haccept⟩
  · exact absurd rfl hne

end Sys2Proof.Machine
end

section
/-! ## Streams of bytes: a frame from `ZERO` to its report (R90, R99, R166) -/

namespace Sys2Proof.Machine

/-! ### Steps that present one byte each -/

/-- The report of the step that led to `s`, if it made one (R41). -/
def State.report (s : State) : List Bool := if s.frameDone then [s.frameOk] else []

/-- The bytes of a stream lead from one state to another, making the listed reports. -/
inductive Fed : List Byte → State → State → List Bool → Prop where
  | nil {s : State} : Fed [] s s []
  | cons {c : Byte} {bytes : List Byte} {s t u : State} {rs : List Bool} (hstep : stepByte c s = .next t)
      (hrest : Fed bytes t u rs) : Fed (c :: bytes) s u (t.report ++ rs)

namespace Fed

variable {bytes bytes' : List Byte} {s t u : State} {rs rs' : List Bool}

theorem feed_eq (h : Fed bytes s t rs) : feed bytes s = .next t := by
  induction h with
  | nil => rfl
  | cons hstep _ ih => rw [feed_cons _ hstep, ih]

theorem reports_eq (h : Fed bytes s t rs) : reports bytes s = rs := by
  induction h with
  | nil => rfl
  | @cons c bytes s t u rs hstep _ ih =>
    rw [reports, hstep]
    cases hdone : t.frameDone <;> simp [State.report, hdone, ih]

theorem append (h : Fed bytes s t rs) (h' : Fed bytes' t u rs') : Fed (bytes ++ bytes') s u (rs ++ rs') := by
  induction h with
  | nil => exact h'
  | cons hstep _ ih => rw [List.append_assoc]; exact cons hstep (ih h')

/-- A byte whose step makes no report adds none. -/
theorem cons_quiet {c : Byte} (hstep : stepByte c s = .next t) (hquiet : t.frameDone = false)
    (hrest : Fed bytes t u rs) : Fed (c :: bytes) s u rs := by
  have h := cons hstep hrest
  rwa [State.report, hquiet] at h

end Fed

/-- A step that presents a byte runs its instruction with no further input and the outputs at 0 (R229). -/
theorem stepByte_eq_exec (c : Byte) (s : State) :
    stepByte c s = exec (decodeByte s.state c) { s with inputs := [], frameDone := false, frameOk := false } :=
  (step_ofByte _ rfl).trans (consumeByte_eq_exec _ _)

/-! ### A payload in the buffer -/

namespace Memory

/-- The bytes of a payload written to the buffer from index 0 on. -/
def writePayload (m : List Host.Cell) (payload : List Byte) : List Host.Cell :=
  payload.zipIdx.foldl (fun m e => write m e.2 e.1) m

@[simp] theorem writePayload_nil (m : List Host.Cell) : writePayload m [] = m := rfl

theorem writePayload_concat (m : List Host.Cell) (payload : List Byte) (c : Byte) :
    writePayload m (payload ++ [c]) = write (writePayload m payload) payload.length c := by
  simp [writePayload, List.zipIdx_append]

variable {m : List Host.Cell} (hwf : wf m = true) {payload : List Byte} (hcap : payload.length ≤ dataCap)

include hwf hcap

theorem wf_writePayload : wf (writePayload m payload) = true := by
  induction payload using List.reverseRecOn with
  | nil => exact hwf
  | append_singleton payload c ih =>
    rw [List.length_append, List.length_singleton] at hcap
    rw [writePayload_concat]
    exact wf_write (ih (by omega)) (by omega) c

theorem read_writePayload (i : Nat) : read (writePayload m payload) i = (payload[i]?).getD (read m i) := by
  induction payload using List.reverseRecOn with
  | nil => rfl
  | append_singleton payload c ih =>
    rw [List.length_append, List.length_singleton] at hcap
    rw [writePayload_concat, read_write (wf_writePayload hwf (by omega)), ih (by omega)]
    grind

theorem payloadSum_writePayload :
    payloadSum (writePayload m payload) payload.length = (payload.map BitVec.toNat).sum := by
  rw [payloadSum_eq_sum_range]
  congr 1
  apply List.ext_getElem
  · simp
  · intro i hi hi'
    rw [List.length_map] at hi'
    simp [read_writePayload hwf hcap, hi']

end Memory

theorem length_le_dataCap {pt : Byte} {payload : List Byte} (hlen : payload.length = dataLength pt) :
    payload.length ≤ dataCap := by
  have hle := dataLength_le pt
  have hcap : dataCap = 64 := rfl
  omega

/-- The checksum the parser computes over a buffer that holds the payload is the one the frame carries (R99, R162). -/
theorem computedChecksum_writePayload {m : List Host.Cell} (hwf : Memory.wf m = true) {pt : Byte} (a : Byte)
    {payload : List Byte} (hlen : payload.length = dataLength pt) :
    computedChecksum pt a (Memory.writePayload m payload) = frameSum pt a payload := by
  rw [computedChecksum, ← hlen, Memory.payloadSum_writePayload hwf (length_le_dataCap hlen), frameSum]

theorem be16_highByte_lowByte (v : Half) : be16 (highByte v) (lowByte v) = v := by
  rw [be16_eq_iff]
  have hlt := v.isLt
  simp only [highByte, lowByte, BitVec.extractLsb'_toNat, Nat.shiftRight_eq_div_pow]
  omega

/-! ### The states within a frame -/

section Frame

variable (s : State) (pt a : Byte)

/-- The parser between the address byte and the checksum bytes of a frame begun in `s`: the payload bytes `got` have
come. -/
def State.receiving (got : List Byte) : State :=
  { s with
    state := if got.length = dataLength pt then .checkHigh else .payload
    idx := BitVec.ofNat 6 got.length
    packetType := pt
    address := a
    data := Memory.writePayload s.data got
    frameDone := false
    frameOk := false
    inputs := [] }

/-- The parser after a frame with the checksum value `sum`, begun in `s`. -/
def State.afterFrame (payload : List Byte) (sum : Half) : State :=
  ((((s.receiving pt a payload).setChecksum1 (highByte sum)).goto .checkLow).setChecksum0 (lowByte sum)).conclude

variable {s}

/-- The three sync characters bring the parser to the type byte and touch no register. -/
theorem fed_sync (hst : s.state = .zero) :
    Fed [sync0, sync1, sync2] s
      { s with state := .syncSnp, inputs := [], frameDone := false, frameOk := false } [] := by
  have hzero : stepByte sync0 s =
      .next { s with state := .syncS, inputs := [], frameDone := false, frameOk := false } := by
    rw [stepByte_eq_exec, hst]; rfl
  exact .cons_quiet hzero rfl (.cons_quiet (stepByte_eq_exec _ _) rfl (.cons_quiet (stepByte_eq_exec _ _) rfl .nil))

/-- With the address byte the parser is ready for the payload, or, when there is none, for the checksum. -/
theorem stepByte_address (hst : s.state = .type) :
    stepByte a s = .next (s.receiving s.packetType a []) := by
  rw [stepByte_eq_exec, hst, decodeByte_type]
  simp only [State.receiving, List.length_nil, eq_comm (a := 0)]
  rfl

theorem fed_header (hst : s.state = .zero) :
    Fed [sync0, sync1, sync2, pt, a] s (s.receiving pt a []) [] :=
  (fed_sync hst).append
    (.cons_quiet ((stepByte_eq_exec _ _).trans (exec_decodeByte_syncSnp _ _)) rfl
      (.cons_quiet (stepByte_address a rfl) rfl .nil))

variable {pt}

theorem stepByte_receiving {got : List Byte} (hlt : got.length < dataLength pt) (c : Byte) :
    stepByte c (s.receiving pt a got) = .next (s.receiving pt a (got ++ [c])) := by
  have hle := dataLength_le pt
  have hst : (s.receiving pt a got).state = .payload := if_neg hlt.ne
  have hidx : (BitVec.ofNat 6 got.length).toNat = got.length := Nat.mod_eq_of_lt (by omega)
  rw [stepByte_eq_exec, hst, decodeByte_payload, exec_pl, State.storePayload_goto_noReport_frame]
  simp [State.receiving, State.length, Memory.writePayload_concat, hidx, BitVec.ofNat_add]

theorem fed_payload {got rest : List Byte} (hlen : got.length + rest.length = dataLength pt) :
    Fed rest (s.receiving pt a got) (s.receiving pt a (got ++ rest)) [] := by
  induction rest generalizing got with
  | nil => rw [List.append_nil]; exact .nil
  | cons c rest ih =>
    rw [List.length_cons] at hlen
    have htail := ih (got := got ++ [c]) (by rw [List.length_append, List.length_singleton]; omega)
    rw [List.append_assoc] at htail
    exact .cons_quiet (stepByte_receiving a (by omega) c) rfl htail

/-- The checksum bytes conclude the frame: the only report is the one of the second byte. -/
theorem fed_checksum {payload : List Byte} (hlen : payload.length = dataLength pt) (sum : Half) :
    Fed [highByte sum, lowByte sum] (s.receiving pt a payload) (s.afterFrame pt a payload sum)
      [(s.afterFrame pt a payload sum).frameOk] := by
  have hst : (s.receiving pt a payload).state = .checkHigh := if_pos hlen
  have hhigh : stepByte (highByte sum) (s.receiving pt a payload) =
      .next (((s.receiving pt a payload).setChecksum1 (highByte sum)).goto .checkLow) := by
    rw [stepByte_eq_exec, hst]; rfl
  have hlow : stepByte (lowByte sum) (((s.receiving pt a payload).setChecksum1 (highByte sum)).goto .checkLow) =
      .next (s.afterFrame pt a payload sum) := by
    rw [stepByte_eq_exec, State.goto_state, decodeByte_checkLow, exec_ckl]; rfl
  have hdone : (s.afterFrame pt a payload sum).frameDone = true := State.conclude_frameDone _
  have hlast := Fed.cons hlow .nil
  rw [State.report, hdone] at hlast
  exact .cons_quiet hhigh rfl hlast

/-- A frame begun in `ZERO` makes one report, at its last byte. -/
theorem fed_frameWith (hst : s.state = .zero) {payload : List Byte} (hlen : payload.length = dataLength pt)
    (sum : Half) :
    Fed (frameWith pt a payload sum) s (s.afterFrame pt a payload sum) [(s.afterFrame pt a payload sum).frameOk] :=
  ((fed_header pt a hst).append (fed_payload a (by simpa using hlen))).append (fed_checksum a hlen sum)

/-! ### The state after a frame -/

variable (s pt) (payload : List Byte) (sum : Half)

@[simp] theorem State.afterFrame_state : (s.afterFrame pt a payload sum).state = .zero := State.conclude_state _
@[simp] theorem State.afterFrame_packetType : (s.afterFrame pt a payload sum).packetType = pt :=
  State.conclude_packetType _
@[simp] theorem State.afterFrame_address : (s.afterFrame pt a payload sum).address = a := State.conclude_address _
@[simp] theorem State.afterFrame_data :
    (s.afterFrame pt a payload sum).data = Memory.writePayload s.data payload := State.conclude_data _

variable {s pt payload}

/-- The frame is accepted exactly when the checksum value it carries is its own sum. -/
theorem State.afterFrame_frameOk (hwf : Memory.wf s.data = true) (hlen : payload.length = dataLength pt) :
    (s.afterFrame pt a payload sum).frameOk = decide (sum = frameSum pt a payload) := by
  rw [State.afterFrame, State.conclude_frameOk, Bool.eq_iff_iff, State.packetValid_iff, decide_eq_true_iff,
    ← computedChecksum_writePayload hwf a hlen]
  exact Eq.congr_left (be16_highByte_lowByte sum)

end Frame

/-- Settles O53: the first frame makes one report, of a rejection, and leaves the parser in `ZERO`, where the second
frame begins. -/
theorem recoveryAfterACorruptedChecksum : Obligations.RecoveryAfterACorruptedChecksum := by
  unfold Obligations.RecoveryAfterACorruptedChecksum
  intro s pt a pt' a' payload payload' sum hst hwf hlen hlen' hsum
  have hwf' : Memory.wf (s.afterFrame pt a payload sum).data = true := by
    rw [State.afterFrame_data]
    exact Memory.wf_writePayload hwf (length_le_dataCap hlen)
  have hfirst := fed_frameWith a hst hlen sum
  rw [State.afterFrame_frameOk a sum hwf hlen, decide_eq_false hsum] at hfirst
  have hsecond := fed_frameWith a' (s.afterFrame_state pt a payload sum) hlen' (frameSum pt' a' payload')
  rw [State.afterFrame_frameOk a' _ hwf' hlen', decide_eq_true rfl] at hsecond
  have hboth := hfirst.append hsecond
  refine ⟨hboth.reports_eq, _, hboth.feed_eq, State.afterFrame_state .., State.afterFrame_packetType ..,
    State.afterFrame_address .., fun i hi => ?_⟩
  rw [State.readData, State.afterFrame_data, Memory.read_writePayload hwf' (length_le_dataCap hlen'),
    List.getElem?_eq_getElem hi, Option.getD_some]

end Sys2Proof.Machine
end

section
/-! ## The Field Decoder: what each operation writes (R181 to R190) -/

namespace Sys2Proof.Machine

/-! ### The assembled operands as numbers and bit by bit (R183, R185, R188) -/

section Operands

variable (b0 b1 b2 b3 : Byte)

theorem be32_eq_append_be16 : be32 b0 b1 b2 b3 = be16 b0 b1 ++ be16 b2 b3 :=
  BitVec.append_assoc

theorem le32_eq_be32 : le32 b0 b1 b2 b3 = be32 b3 b2 b1 b0 := rfl

theorem toNat_be32 :
    (be32 b0 b1 b2 b3).toNat = b0.toNat * 2 ^ 24 + b1.toNat * 2 ^ 16 + b2.toNat * 2 ^ 8 + b3.toNat := by
  rw [be32_eq_append_be16, BitVec.toNat_append, ← Nat.shiftLeft_add_eq_or_of_lt (BitVec.isLt _), Nat.shiftLeft_eq,
    toNat_be16, toNat_be16]
  omega

theorem toNat_le32 :
    (le32 b0 b1 b2 b3).toNat = b0.toNat + b1.toNat * 2 ^ 8 + b2.toNat * 2 ^ 16 + b3.toNat * 2 ^ 24 := by
  rw [le32_eq_be32, toNat_be32]
  omega

/-- Bits 7:0 of the big-endian word are the last byte. -/
theorem getLsbD_be32_of_lt {i : Nat} (hi : i < 8) : (be32 b0 b1 b2 b3).getLsbD i = b3.getLsbD i := by
  rw [be32, BitVec.getLsbD_append, if_pos hi]

/-- Bits 15:8 of the big-endian word are the third byte. -/
theorem getLsbD_be32_add_eight {i : Nat} (hi : i < 8) : (be32 b0 b1 b2 b3).getLsbD (i + 8) = b2.getLsbD i := by
  rw [be32, BitVec.getLsbD_append, if_neg (by omega), Nat.add_sub_cancel, BitVec.getLsbD_append, if_pos hi]

/-- The sign bit of the pair is the top bit of its first byte (R185). -/
theorem sext16_be16 :
    sext16 (be16 b0 b1) =
      if b0.toNat < 128 then (b0.toNat * 256 + b1.toNat : Int) else (b0.toNat * 256 + b1.toNat : Int) - 65536 := by
  have hsign : b0.toNat * 2 ^ 8 + b1.toNat < 32768 ↔ b0.toNat < 128 := by omega
  simp only [sext16, toNat_be16, hsign]
  push_cast
  rfl

end Operands

/-! ### The five operations as instructions -/

section Operations

variable (s : State)

@[simp] theorem exec_decFw : exec .decFw s = .next s.decodeFw := rfl
@[simp] theorem exec_decHealth : exec .decHealth s = .next s.decodeHealth := rfl
@[simp] theorem exec_decEuler : exec .decEuler s = .next s.decodeEuler := rfl
@[simp] theorem exec_decGyro : exec .decGyro s = .next s.decodeGyro := rfl
@[simp] theorem exec_decNop : exec .decNop s = .next s := rfl

/-! ### What they write: the frames, and the values (R181, R183, R188) -/

theorem State.decodeFw_frame :
    s.decodeFw = { s with firmwareString := s.decodeFw.firmwareString, newFwString := true } := rfl

theorem State.decodeHealth_frame : s.decodeHealth = { s with error := s.healthWord } := rfl

theorem State.decodeGyro_frame :
    s.decodeGyro =
      { s with gyroX := s.decodeGyro.gyroX, gyroY := s.decodeGyro.gyroY, gyroZ := s.decodeGyro.gyroZ } := rfl

/-- Four registers and the hardwired terminator (R34). -/
theorem State.decodeFw_readFirmware (i : Fin 5) :
    s.decodeFw.readFirmware i = if i.val < 4 then s.readData i.val else 0x00#8 := by
  match i with
  | 0 | 1 | 2 | 3 | 4 => rfl

theorem State.toNat_healthWord :
    s.healthWord.toNat =
      (s.readData 0).toNat * 2 ^ 24 + (s.readData 1).toNat * 2 ^ 16 + (s.readData 2).toNat * 2 ^ 8 +
        (s.readData 3).toNat := toNat_be32 ..

theorem State.toNat_gyroPattern (i : Nat) :
    (s.gyroPattern i).toNat =
      (s.readData i).toNat + (s.readData (i + 1)).toNat * 2 ^ 8 + (s.readData (i + 2)).toNat * 2 ^ 16 +
        (s.readData (i + 3)).toNat * 2 ^ 24 := toNat_le32 ..

@[simp] theorem State.decodeGyro_gyroY :
    s.decodeGyro.gyroY = if dataLength s.packetType > 4 then s.gyroPattern 4 else s.gyroY := rfl
@[simp] theorem State.decodeGyro_gyroZ :
    s.decodeGyro.gyroZ = if dataLength s.packetType > 8 then s.gyroPattern 8 else s.gyroZ := rfl

variable {s}

/-- An address that is none of the four selects the operation without effect (R190). -/
theorem State.fieldDecode_of_unmapped (hfw : s.address ≠ s.config.addrFw) (hhealth : s.address ≠ s.config.addrHealth)
    (heuler : s.address ≠ s.config.addrEuler) (hgyro : s.address ≠ s.config.addrGyro) : s.fieldDecode = s := by
  obtain ⟨h, -⟩ | ⟨h, -⟩ | ⟨h, -⟩ | ⟨h, -⟩ | ⟨-, heq⟩ := s.fieldDecode_cases
  · exact absurd h hfw
  · exact absurd h hhealth
  · exact absurd h heuler
  · exact absurd h hgyro
  · exact heq

end Operations

/-- Settles O24: the string's four registers are the payload bytes at their indices, the terminator is hardwired. -/
theorem firmwareDecode : Obligations.FirmwareDecode := by
  unfold Obligations.FirmwareDecode
  intro s
  have hread := s.decodeFw_readFirmware
  exact ⟨_, exec_decFw s, s.decodeFw_frame, hread 0, hread 1, hread 2, hread 3, hread 4⟩

/-- Settles O25: `error` becomes the big-endian word, whose bit 8 lies in the third byte and whose bits 5 to 1 lie in
the last. -/
theorem healthDecode : Obligations.HealthDecode := by
  unfold Obligations.HealthDecode
  intro s
  have hlast {i : Nat} (hi : i < 8) : s.healthWord.getLsbD i = (s.readData 3).getLsbD i :=
    getLsbD_be32_of_lt _ _ _ _ hi
  have hthird : s.healthWord.getLsbD 8 = (s.readData 2).getLsbD 0 :=
    getLsbD_be32_add_eight _ _ _ _ (i := 0) (by decide)
  exact ⟨_, exec_decHealth s, s.decodeHealth_frame, s.toNat_healthWord, hthird, hlast (by decide), hlast (by decide),
    hlast (by decide), hlast (by decide), hlast (by decide)⟩

/-- Settles O26: the six registers and their conditions are the operation's own; the raw value's two readings are
`toNat_be16` and `sext16_be16`. -/
theorem eulerDecode : Obligations.EulerDecode := by
  unfold Obligations.EulerDecode
  exact fun s => ⟨exec_decEuler s, fun b0 b1 => ⟨toNat_be16 b0 b1, sext16_be16 b0 b1⟩⟩

/-- Settles O27: where the length admits a register it takes its pattern, elsewhere it keeps its value. -/
theorem gyroDecode : Obligations.GyroDecode := by
  unfold Obligations.GyroDecode
  intro s
  refine ⟨_, exec_decGyro s, s.decodeGyro_frame, s.toNat_gyroPattern 0, ?y, ?z⟩
  case y =>
    rw [State.decodeGyro_gyroY]
    split
    · exact s.toNat_gyroPattern 4
    · rfl
  case z =>
    rw [State.decodeGyro_gyroZ]
    split
    · exact s.toNat_gyroPattern 8
    · rfl

/-- Settles O28: the Packet that the low byte completes is valid, and its address leaves the Field Decoder without
effect. -/
theorem unrecognisedAddressIsANoOp : Obligations.UnrecognisedAddressIsANoOp := by
  unfold Obligations.UnrecognisedAddressIsANoOp
  refine ⟨exec_decNop, fun s c hfw hhealth heuler hgyro hsum => ?_⟩
  have hvalid : (s.setChecksum0 c).packetValid = true := State.packetValid_iff.2 (be16_eq_iff.2 hsum)
  have hnop : (s.setChecksum0 c).fieldDecode = s.setChecksum0 c :=
    State.fieldDecode_of_unmapped hfw hhealth heuler hgyro
  rw [exec_ckl, State.conclude_of_valid hvalid, hnop]
  rfl

end Sys2Proof.Machine
end

section
/-! ## Failures and port events: the rejected frame and the idle step (R222, R227) -/

namespace Sys2Proof.Machine

/-! ### A checksum mismatch (R222) -/

section Mismatch

variable {s t : State} {c : Byte}

/-- The low byte makes the Packet valid exactly when the two transmitted bytes give the computed checksum. -/
theorem State.packetValid_setChecksum0_iff :
    (s.setChecksum0 c).packetValid = true ↔
      s.checksum1.toNat * 256 + c.toNat = (computedChecksum s.packetType s.address s.data).toNat :=
  State.packetValid_iff.trans be16_eq_iff

/-- Only the low checksum byte's rule makes a report. -/
theorem consumeByte_frameDone_of_not_checkLow (hst : s.state ≠ .checkLow) (h : consumeByte c s = .next t) :
    t.frameDone = false := by
  obtain ⟨-, rfl⟩ | ⟨-, rfl⟩ | ⟨-, rfl⟩ | ⟨-, rfl⟩ | ⟨-, rfl⟩ | ⟨-, rfl⟩ | ⟨-, rfl⟩ | ⟨hlow, -⟩ | ⟨hlow, -⟩ :=
    consumeByte_cases h
  iterate 7 rfl
  iterate 2 exact absurd hlow hst

/-- A consumed byte is reported as a rejection exactly when it is a low checksum byte that does not match. -/
theorem consumeByte_rejects_iff (h : consumeByte c s = .next t) :
    t.frameDone = true ∧ t.frameOk = false ↔
      s.state = .checkLow ∧
        s.checksum1.toNat * 256 + c.toNat ≠ (computedChecksum s.packetType s.address s.data).toNat := by
  by_cases hst : s.state = .checkLow
  · rw [consumeByte_eq_exec, hst, decodeByte_checkLow, exec_ckl] at h
    cases h
    rw [State.conclude_frameDone, State.conclude_frameOk, ← Bool.not_eq_true, State.packetValid_setChecksum0_iff]
    simp [hst]
  · simp [consumeByte_frameDone_of_not_checkLow hst h, hst]

/-- A step consumes its byte, or it makes no report: the other events of a step never do (R229). -/
theorem step_consumes_or_makes_no_report (h : step s = .next t) :
    (consumesByte s.sampledPorts = true ∧ consumeByte s.sampledPorts.byteIn s.afterConsume = .next t) ∨
      (consumesByte s.sampledPorts = false ∧ t.frameDone = false) := by
  obtain ⟨hrst, rfl⟩ | ⟨-, hresync, rfl⟩ | ⟨hrst, hresync, hvalid, hbyte⟩ | ⟨-, -, hvalid, rfl⟩ := step_cases h
  · exact .inr ⟨by simp [consumesByte, hrst], rfl⟩
  · exact .inr ⟨by simp [consumesByte, hresync], rfl⟩
  · exact .inl ⟨by simp [consumesByte, hrst, hresync, hvalid], hbyte⟩
  · exact .inr ⟨by simp [consumesByte, hvalid], rfl⟩

end Mismatch

/-- Settles O23: the mismatch concludes the Packet as invalid, and of the events of a step only the low checksum byte
makes a report. -/
theorem checksumMismatchIsReported : Obligations.ChecksumMismatchIsReported := by
  unfold Obligations.ChecksumMismatchIsReported
  refine ⟨fun s c hst hne => ?reject, fun s t c hst hexec => ?silent, fun s t hstep => ?steps⟩
  case reject =>
    have hinvalid : ¬ (s.setChecksum0 c).packetValid = true := mt State.packetValid_setChecksum0_iff.1 hne
    rw [hst, decodeByte_checkLow, exec_ckl, State.conclude_of_invalid hinvalid]
    exact ⟨_, rfl, rfl, rfl, rfl, rfl, rfl, rfl, rfl, rfl, rfl, eq_false_of_ne_true hinvalid, rfl⟩
  case silent =>
    rw [← consumeByte_eq_exec] at hexec
    exact consumeByte_frameDone_of_not_checkLow hst hexec
  case steps =>
    obtain ⟨hconsumes, hbyte⟩ | ⟨hnone, hquiet⟩ := step_consumes_or_makes_no_report hstep
    · simpa [hconsumes] using consumeByte_rejects_iff hbyte
    · simp [hnone, hquiet]

/-! ### A step without `rst`: its first and its last event (R227, R229) -/

section LastEvent

variable (s : State)

@[simp] theorem exec_fwConsume : exec .fwConsume s = .next (s.setNewFw false) := rfl
@[simp] theorem exec_idle : exec .idle s = .next s.noReport := rfl

/-- What a step has done before its last event: its ports are taken, the outputs are 0, `fw_consume` has had its effect. -/
theorem State.afterConsume_frame :
    s.afterConsume =
      { s with
        newFwString := if s.sampledPorts.fwConsume = true then false else s.newFwString
        frameDone := false, frameOk := false
        inputs := s.inputs.tail } := by
  unfold State.afterConsume
  split <;> rfl

variable {s}

/-- Unless reset, a step is its last event, selected by `resync` over a byte over nothing. -/
theorem step_eq_exec_afterConsume (hrst : s.sampledPorts.rst = false) :
    step s =
      exec (if s.sampledPorts.resync then .resync
        else if s.sampledPorts.byteValid then decodeByte s.state s.sampledPorts.byteIn else .idle) s.afterConsume := by
  unfold step oneStep selectEvents State.afterConsume
  cases hfw : s.sampledPorts.fwConsume
  · simp [hrst]
  · simp [hrst, execAll_cons _ (exec_fwConsume _)]

end LastEvent

/-- Settles O37: the last event of such a step is IDLE, which keeps what `fw_consume` left. -/
theorem idleChangesNothing : Obligations.IdleChangesNothing := by
  unfold Obligations.IdleChangesNothing
  refine ⟨exec_idle, fun s hrst hresync hvalid => ?_⟩
  have hlast : step s = exec .idle s.afterConsume := by simp [step_eq_exec_afterConsume hrst, hresync, hvalid]
  rw [hlast, exec_idle, State.afterConsume_frame]
  rfl

end Sys2Proof.Machine
end

section
/-! ## Every format: decode against encode, the opcode map, the Field Decoder's selection (R91, R92, R95, R210) -/

namespace Sys2Proof

/-! ### The Field Decoder's selection (R92) -/

section Selection

variable {cfg : Config} {a : Byte}

theorem selectField_eq_nop_iff :
    selectField cfg a = .nop ↔ a ∉ [cfg.addrFw, cfg.addrHealth, cfg.addrEuler, cfg.addrGyro] := by
  unfold selectField
  split_ifs <;> simp [*]

/-- What the parameter's check says (R5). -/
theorem addressesDistinct_iff :
    cfg.addressesDistinct = true ↔
      (cfg.addrFw ≠ cfg.addrHealth ∧ cfg.addrFw ≠ cfg.addrEuler ∧ cfg.addrFw ≠ cfg.addrGyro) ∧
      (cfg.addrHealth ≠ cfg.addrEuler ∧ cfg.addrHealth ≠ cfg.addrGyro) ∧ cfg.addrEuler ≠ cfg.addrGyro := by
  simp [Config.addressesDistinct]

@[simp] theorem selectField_addrFw : selectField cfg cfg.addrFw = .fw := if_pos rfl

variable (hdistinct : cfg.addressesDistinct = true)

include hdistinct

/-- With distinct addresses each of the four selects its own operation, whatever the order of the tests. -/
theorem selectField_addrHealth : selectField cfg cfg.addrHealth = .health := by
  obtain ⟨⟨hfw, -, -⟩, -, -⟩ := addressesDistinct_iff.1 hdistinct
  simp [selectField, hfw.symm]

theorem selectField_addrEuler : selectField cfg cfg.addrEuler = .euler := by
  obtain ⟨⟨-, hfw, -⟩, ⟨hhealth, -⟩, -⟩ := addressesDistinct_iff.1 hdistinct
  simp [selectField, hfw.symm, hhealth.symm]

theorem selectField_addrGyro : selectField cfg cfg.addrGyro = .gyro := by
  obtain ⟨⟨-, -, hfw⟩, ⟨-, hhealth⟩, heuler⟩ := addressesDistinct_iff.1 hdistinct
  simp [selectField, hfw.symm, hhealth.symm, heuler.symm]

end Selection

/-- Settles O5: an operation is selected only by its own address, and distinct addresses select their own operations. -/
theorem addressSelectsTheDecoder : Obligations.AddressSelectsTheDecoder := by
  unfold Obligations.AddressSelectsTheDecoder
  intro cfg a hdistinct
  refine ⟨⟨fun h => ?fw, ?_⟩, ⟨fun h => ?health, ?_⟩, ⟨fun h => ?euler, ?_⟩, ⟨fun h => ?gyro, ?_⟩, ?nop⟩
  case nop => simp [selectField_eq_nop_iff]
  case fw | health | euler | gyro =>
    unfold selectField at h
    split_ifs at h
    assumption
  · rintro rfl; exact selectField_addrFw
  · rintro rfl; exact selectField_addrHealth hdistinct
  · rintro rfl; exact selectField_addrEuler hdistinct
  · rintro rfl; exact selectField_addrGyro hdistinct

/-! ### Decode against encode on the formats A and SEQ -/

/-- Five candidates are more than the four addresses, so one of them is no address (R190). -/
theorem selectField_unmappedAddress (cfg : Config) : selectField cfg (unmappedAddress cfg) = .nop := by
  unfold unmappedAddress
  cases hfind : List.find? (fun a => decide (selectField cfg a = .nop)) [0x00#8, 0x01#8, 0x02#8, 0x03#8, 0x04#8] with
  | some a => simpa using List.find?_some hfind
  | none =>
    have hsub : [0x00#8, 0x01#8, 0x02#8, 0x03#8, 0x04#8] ⊆
        [cfg.addrFw, cfg.addrHealth, cfg.addrEuler, cfg.addrGyro] := by
      intro a ha
      have hmapped := List.find?_eq_none.1 hfind a ha
      rwa [decide_eq_true_iff, selectField_eq_nop_iff, not_not] at hmapped
    have hlen := (List.Nodup.subperm (by decide) hsub).length_le
    simp at hlen

theorem commandAddress_commandFrame (a : Byte) : commandAddress (commandFrame a) = some a := if_pos rfl

/-- Settles O4: a stream byte decodes to the one well-formed instruction it encodes, a register value by the selection of
distinct addresses; the port events and the command frame are read back as they are written. -/
theorem decodeEncodeRoundTrip : Obligations.DecodeEncodeRoundTrip := by
  unfold Obligations.DecodeEncodeRoundTrip
  intro cfg i hdistinct hwf
  have hregister {a : Byte} {op : FieldOp} (h : selectField cfg a = op) : decode cfg (.register a) = .ok op.instr :=
    congrArg (fun op : FieldOp => Except.ok op.instr) h
  cases i with
  | zS | zSkip | sN | sMiss | snP | snMiss | ptNodata | ptSingle | ptBatch | addr | pl | ckh | ckl =>
    exact congrArg Except.ok (decodeByte_of_encode (cfg := cfg) hwf rfl)
  | decFw => exact hregister selectField_addrFw
  | decHealth => exact hregister (selectField_addrHealth hdistinct)
  | decEuler => exact hregister (selectField_addrEuler hdistinct)
  | decGyro => exact hregister (selectField_addrGyro hdistinct)
  | decNop => exact hregister (selectField_unmappedAddress cfg)
  | reset | fwConsume | resync | idle => rfl
  | cmd a => simp only [encode, decode, commandAddress_commandFrame]

/-! ### The opcode map (R95) -/

/-- The mask of the type byte without payload tests bit 7. -/
theorem and_0x80_eq_zero_iff (c : Byte) : c &&& 0x80#8 = 0x00#8 ↔ hasData c = false := by
  revert c; decide +kernel

/-- The mask of the two type bytes with payload tests bits 7 and 6. -/
theorem and_0xC0_eq_iff (c : Byte) :
    (c &&& 0xC0#8 = 0x80#8 ↔ hasData c = true ∧ isBatch c = false) ∧
    (c &&& 0xC0#8 = 0xC0#8 ↔ hasData c = true ∧ isBatch c = true) := by
  revert c; decide +kernel

/-- Settles O3: the rows of a state are found in the map's order; a sync state's first row masks nothing out and its
default row everything, in `SYNC_SNP` the masks test bits 7 and 6. -/
theorem classifierTakesTheFirstMatchingRow : Obligations.ClassifierTakesTheFirstMatchingRow := by
  unfold Obligations.ClassifierTakesTheFirstMatchingRow
  intro st c
  have hall (c : Byte) : c &&& 0xFF#8 = c := BitVec.and_allOnes
  cases st with
  | zero => by_cases hc : c = sync0 <;> simp [firstByteRow, byteRows, classify, hall, hc]
  | syncS => by_cases hc : c = sync1 <;> simp [firstByteRow, byteRows, classify, hall, hc]
  | syncSn => by_cases hc : c = sync2 <;> simp [firstByteRow, byteRows, classify, hall, hc]
  | syncSnp =>
    have hnone := and_0x80_eq_zero_iff c
    obtain ⟨hsingle, hbatch⟩ := and_0xC0_eq_iff c
    cases hd : hasData c <;> cases hb : isBatch c <;>
      simp_all [firstByteRow, byteRows, classify]
  | type | payload | checkHigh | checkLow => simp [firstByteRow, byteRows, classify]

/-- Settles O1: each word is read field by field. -/
theorem specWordsDecodeToTheirRows : Obligations.SpecWordsDecodeToTheirRows := by
  unfold Obligations.SpecWordsDecodeToTheirRows
  exact ⟨rfl, rfl, rfl, rfl, rfl, rfl, rfl, rfl, rfl, rfl, rfl, rfl, rfl, rfl, rfl⟩

/-! ### The command frame (R210) -/

theorem toNat_frameSum_of_noPayload (a : Byte) : (frameSum 0x00#8 a []).toNat = 0x0151 + a.toNat := by
  have ha := a.isLt
  have hsync : syncSum = 0x0151 := rfl
  simp only [frameSum, hsync, List.map_nil, List.sum_nil, BitVec.toNat_ofNat]
  omega

/-- Settles O58: the sum needs 9 bits, so its high byte is 1 or 2, and the command frame is the general frame's layout
with an empty payload. -/
theorem commandFrameLayout : Obligations.CommandFrameLayout := by
  unfold Obligations.CommandFrameLayout
  intro a
  have ha := a.isLt
  have hsum := toNat_frameSum_of_noPayload a
  have hbytes := Machine.be16_eq_iff.1 (Machine.be16_highByte_lowByte (frameSum 0x00#8 a []))
  have hframe : commandFrame a = frame 0x00#8 a [] := rfl
  have hlow := (lowByte (frameSum 0x00#8 a [])).isLt
  refine ⟨highByte (frameSum 0x00#8 a []), lowByte (frameSum 0x00#8 a []), hframe, ?_, ?_, ?_, ?_, hframe⟩
  · omega
  · omega
  · exact fun hle => BitVec.eq_of_toNat_eq (show _ = 1 by omega)
  · exact fun hle => BitVec.eq_of_toNat_eq (show _ = 2 by omega)

end Sys2Proof
end

section
/-! ## Header bytes: the type byte's fields as numbers, the address byte, and the range of the checksum (R23, R134, R136, R164) -/

namespace Sys2Proof

/-! ### The type byte (R23) -/

section TypeByteFields

variable (c : Byte)

/-- An accessor of one bit reads it off the byte's value. -/
theorem getLsbD_eq_decide_div (i : Nat) : c.getLsbD i = decide (c.toNat / 2 ^ i % 2 = 1) :=
  Nat.testBit_eq_decide_div_mod_eq

theorem toNat_getLsbD (i : Nat) : (c.getLsbD i).toNat = c.toNat / 2 ^ i % 2 := Nat.toNat_testBit c.toNat i

end TypeByteFields

/-- Settles O6: the one-bit accessors are binary digits of the byte, bit 7 the last one. -/
theorem typeByteFields : Obligations.TypeByteFields := by
  unfold Obligations.TypeByteFields
  intro pt
  have htop : pt.toNat / 2 ^ 7 % 2 = pt.toNat / 128 := by
    have hlt := pt.isLt
    omega
  refine ⟨?_, getLsbD_eq_decide_div pt 6, toNat_batchLength pt, getLsbD_eq_decide_div pt 1, ?_,
    Machine.typeByte_fields pt⟩
  · rw [← htop]
    exact getLsbD_eq_decide_div pt 7
  · simpa [commandFailed] using getLsbD_eq_decide_div pt 0

/-- The byte's value from its fields: each field at its own place. -/
theorem toNat_typeByte (d b : Bool) (n : BitVec 4) (h f : Bool) :
    (typeByte d b n h f).toNat = d.toNat * 128 + b.toNat * 64 + n.toNat * 4 + h.toNat * 2 + f.toNat := by
  have hlt := (typeByte d b n h f).isLt
  have hd := toNat_getLsbD (typeByte d b n h f) 7
  have hb := toNat_getLsbD (typeByte d b n h f) 6
  have hn := toNat_batchLength (typeByte d b n h f)
  have hh := toNat_getLsbD (typeByte d b n h f) 1
  have hf := toNat_getLsbD (typeByte d b n h f) 0
  rw [← hasData, hasData_typeByte] at hd
  rw [← isBatch, isBatch_typeByte] at hb
  rw [batchLength_typeByte] at hn
  rw [← isHidden, isHidden_typeByte] at hh
  rw [← commandFailed, commandFailed_typeByte] at hf
  omega

/-! ### `data_length` (R134) -/

/-- The two lowest bits belong to other fields. -/
theorem dataLength_and_0xFC (c : Byte) : dataLength (c &&& 0xFC#8) = dataLength c := by
  have hbatch : batchLength (c &&& 0xFC#8) = batchLength c := by
    rw [batchLength, BitVec.extractLsb'_and]
    exact BitVec.and_allOnes
  simp [dataLength, hasData, isBatch, hbatch]

/-- Settles O8: the range is the batch length's four bits times 4, and the counts run over the 256 values. -/
theorem dataLengthRangeAndCounts : Obligations.DataLengthRangeAndCounts := by
  unfold Obligations.DataLengthRangeAndCounts
  refine ⟨fun pt => ⟨Nat.mod_eq_zero_of_dvd (four_dvd_dataLength pt), dataLength_le pt, (dataLength_and_0xFC pt).symm⟩,
    by decide +kernel, by decide +kernel, fun k h2 h15 => ?_⟩
  have hall : ∀ k < 16, 2 ≤ k → ((List.range 256).countP fun n => dataLength (BitVec.ofNat 8 n) = 4 * k) = 4 := by
    decide +kernel
  exact hall k (by omega) h2

end Sys2Proof

namespace Sys2Proof.Machine

/-- Settles O13: the three instructions record the type byte of their fields. -/
theorem typeByteInstructionsForEveryField : Obligations.TypeByteInstructionsForEveryField := by
  unfold Obligations.TypeByteInstructionsForEveryField
  intro s b h f n
  refine ⟨⟨_, exec_ptNodata s b n h f, State.recordType_frame .., ?_⟩,
    ⟨_, exec_ptSingle s n h f, State.recordType_frame .., ?_⟩, ⟨_, exec_ptBatch s n h f, State.recordType_frame .., ?_⟩⟩
  all_goals
    rw [State.recordType_frame, toNat_typeByte]
    simp

/-! ### The address byte (R136) -/

@[simp] theorem exec_addr (s : State) (c : Byte) :
    exec (.addr c) s =
      .next ((s.startPayload c).goto (if s.length = 0 then .checkHigh else .payload)).noReport := rfl

/-- Settles O14: `ADDR` has one effect, whatever the byte. -/
theorem addressByteIsRecorded : Obligations.AddressByteIsRecorded := by
  unfold Obligations.AddressByteIsRecorded
  exact fun s c => ⟨decodeByte_type c, exec_addr s c⟩

/-! ### The range of the checksum (R164) -/

theorem payloadSum_le (m : List Host.Cell) (n : Nat) : payloadSum m n ≤ 255 * n := by
  induction n with
  | zero => exact Nat.le_refl 0
  | succ n ih =>
    have hbyte := (Memory.read m n).isLt
    rw [payloadSum]
    omega

/-- At most sixty payload bytes never fill the 16 bits of the sum. -/
theorem toNat_computedChecksum (pt a : Byte) (m : List Host.Cell) :
    (computedChecksum pt a m).toNat = 337 + pt.toNat + a.toNat + payloadSum m (dataLength pt) ∧
      337 + pt.toNat + a.toNat + payloadSum m (dataLength pt) ≤ 0x3F13 := by
  have hsum := payloadSum_le m (dataLength pt)
  have hlen := dataLength_le pt
  have hpt := pt.isLt
  have ha := a.isLt
  have hsync : syncSum = 337 := rfl
  rw [computedChecksum, BitVec.toNat_ofNat, hsync]
  omega

/-- Settles O21: the sum's bound makes the reduction mod 65536 the identity, and a valid Packet transmits such a sum. -/
theorem checksumNeverWraps : Obligations.ChecksumNeverWraps := by
  unfold Obligations.ChecksumNeverWraps
  refine ⟨fun pt a m => ?_, fun s hvalid => ?_⟩
  · obtain ⟨hsum, hmax⟩ := toNat_computedChecksum pt a m
    omega
  · obtain ⟨hsum, hmax⟩ := toNat_computedChecksum s.packetType s.address s.data
    have hrx : s.checksum1.toNat * 2 ^ 8 + s.checksum0.toNat = _ := be16_eq_iff.1 (State.packetValid_iff.1 hvalid)
    rw [State.checksum] at hrx
    omega

end Sys2Proof.Machine
end

section
/-! ## EulerScaleFn: the reference is exactly `raw * 45 / 4096`, and every allowed function is within the tolerance (R186, R187) -/

namespace Sys2Proof.Machine

/-! ### A normalised binary32 value: its pattern read back, and the rounding that yields it (R189) -/

/-- A quotient whose remainder is less than half the divisor is rounded down. -/
theorem nearestEven_of_remainder_lt {d q r : Nat} (h : 2 * r < d) : nearestEven (d * q + r) d = q := by
  have hmod : (d * q + r) % d = r := by rw [Nat.mul_add_mod, Nat.mod_eq_of_lt (by omega)]
  have hdiv : (d * q + r) / d = q := by
    rw [Nat.mul_add_div (by omega), Nat.div_eq_of_lt (by omega), Nat.add_zero]
  rw [nearestEven, hmod, hdiv, if_pos (.inl h)]

/-- The pattern of the significand `m`, its last place `u` places above `2^-149`. -/
def binary32Normal (neg : Bool) (u m : Nat) : Word :=
  BitVec.ofNat 32 (if neg then 0x80000000 + (u * 2 ^ 23 + m) else u * 2 ^ 23 + m)

section Normal

variable {neg : Bool} {u m : Nat} (hlo : 2 ^ 23 ≤ m) (hhi : m < 2 ^ 24) (hu : u ≤ 253)

include hhi hu in
theorem toNat_binary32Normal : (binary32Normal neg u m).toNat = neg.toNat * 2 ^ 31 + (u * 2 ^ 23 + m) := by
  rw [binary32Normal, BitVec.toNat_ofNat]
  cases neg <;> simp <;> omega

include hlo hhi hu

theorem binary32Exponent_normal : binary32Exponent (binary32Normal neg u m) = u + 1 := by
  have hneg := neg.toNat_le
  rw [binary32Exponent, BitVec.extractLsb'_toNat, toNat_binary32Normal hhi hu, Nat.shiftRight_eq_div_pow]
  omega

theorem binary32Fraction_normal : 2 ^ 23 + binary32Fraction (binary32Normal neg u m) = m := by
  rw [binary32Fraction, BitVec.extractLsb'_toNat, toNat_binary32Normal hhi hu, Nat.shiftRight_eq_div_pow]
  omega

theorem binary32Sign_normal : binary32Sign (binary32Normal neg u m) = neg := by
  rw [binary32Sign, BitVec.getLsbD, Nat.testBit_eq_decide_div_mod_eq, toNat_binary32Normal hhi hu]
  cases neg
  · simp only [Bool.toNat_false, decide_eq_false_iff_not]
    omega
  · simp only [Bool.toNat_true, decide_eq_true_eq]
    omega

theorem binary32Units_normal :
    binary32Units (binary32Normal neg u m) = some (if neg then -((m * 2 ^ u : Nat) : Int) else (m * 2 ^ u : Nat)) := by
  have hfinite : u + 1 ≠ 255 := by omega
  rw [binary32Units, binary32Exponent_normal hlo hhi hu, binary32Fraction_normal hlo hhi hu,
    binary32Sign_normal hlo hhi hu, if_neg hfinite, if_neg u.succ_ne_zero, Nat.add_sub_cancel]

/-- A quotient that exceeds a normalised value by less than half its last place is rounded to that value. -/
theorem binary32OfRatio_eq_normal {n d r : Nat} (hn : n * 2 ^ 149 = d * (m * 2 ^ u) + r) (hr : 2 * r < d * 2 ^ u) :
    binary32OfRatio neg n d = binary32Normal neg u m := by
  have hd : 0 < d := Nat.pos_of_ne_zero (by rintro rfl; simp at hr)
  have hquot : n * 2 ^ 149 / d = m * 2 ^ u + r / d := by rw [hn, Nat.mul_add_div hd]
  have hrest : r / d < 2 ^ u := Nat.div_lt_of_lt_mul (by omega)
  have hunit : 0 < 2 ^ u := by positivity
  have hbelow : 2 ^ 23 * 2 ^ u ≤ m * 2 ^ u := Nat.mul_le_mul_right _ hlo
  have habove : m * 2 ^ u + 2 ^ u ≤ 2 ^ 24 * 2 ^ u := Nat.succ_mul m _ ▸ Nat.mul_le_mul_right _ hhi
  generalize r / d = q at hquot hrest
  have hpos : n ≠ 0 := by
    rintro rfl
    rw [Nat.zero_mul, Nat.zero_div] at hquot
    omega
  have hlog : (n * 2 ^ 149 / d).log2 = 23 + u := by
    rw [Nat.log2_eq_iff (by omega), hquot, Nat.add_right_comm, pow_add, pow_add]
    omega
  have hplaces : (if n * 2 ^ 149 / d < 2 ^ 24 then 0 else (n * 2 ^ 149 / d).log2 - 23) = u := by
    rw [hlog, Nat.add_sub_cancel_left, ite_eq_right_iff]
    intro hsmall
    by_contra hne
    have hunit : 2 ^ 1 ≤ 2 ^ u := Nat.pow_le_pow_right (by decide) (by omega)
    omega
  have hround : nearestEven (n * 2 ^ 149) (d * 2 ^ u) = m := by
    rw [hn, Nat.mul_left_comm, Nat.mul_comm m]
    exact nearestEven_of_remainder_lt hr
  rw [binary32OfRatio, if_neg hpos]
  simp only [hplaces, hround]
  rw [Nat.min_eq_left (by omega), binary32Normal]

end Normal

/-! ### The reference `EulerScaleFn` (R186, D11) -/

theorem natAbs_sext16_le (raw : Half) : (sext16 raw).natAbs ≤ 32768 := by
  have hlt := raw.isLt
  unfold sext16
  split <;> omega

/-- A number of at most 24 bits has all 24 after some shift. -/
theorem exists_normalising_shift {n : Nat} (hpos : n ≠ 0) (hlt : n < 2 ^ 24) :
    ∃ j ≤ 23, 2 ^ 23 ≤ n * 2 ^ j ∧ n * 2 ^ j < 2 ^ 24 := by
  have htop : n.log2 ≤ 23 := Nat.le_of_lt_succ ((Nat.log2_lt hpos).2 hlt)
  obtain ⟨hlo, hhi⟩ := (Nat.log2_eq_iff hpos).1 rfl
  refine ⟨23 - n.log2, Nat.sub_le .., ?_, ?_⟩
  · calc 2 ^ 23 = 2 ^ n.log2 * 2 ^ (23 - n.log2) := by rw [← pow_add, Nat.add_sub_cancel' htop]
      _ ≤ n * 2 ^ (23 - n.log2) := Nat.mul_le_mul_right _ hlo
  · calc n * 2 ^ (23 - n.log2) < 2 ^ (n.log2 + 1) * 2 ^ (23 - n.log2) := Nat.mul_lt_mul_of_pos_right hhi (by positivity)
      _ = 2 ^ 24 := by rw [← pow_add]; congr 1; omega

/-- The quotient of a raw magnitude `k` exceeds `45 * k / 4096`, whose significand has at most 21 bits, by less than half
a last place of the 24 bits a pattern holds. -/
theorem binary32Units_euler {neg : Bool} {k : Nat} (hpos : k ≠ 0) (hmax : k ≤ 32768) :
    binary32Units (binary32OfRatio neg (k * eulerScaleDen) eulerScaleNum) =
      some (if neg then -((45 * k * 2 ^ 137 : Nat) : Int) else (45 * k * 2 ^ 137 : Nat)) := by
  obtain ⟨j, hj, hlo, hhi⟩ := exists_normalising_shift (n := 45 * k) (by omega) (by omega)
  have hshift : 45 * k * 2 ^ j * 2 ^ (137 - j) = 45 * k * 2 ^ 137 := by
    rw [Nat.mul_assoc _ (2 ^ j), ← pow_add, Nat.add_sub_cancel' (by omega)]
  have hquot : k * eulerScaleDen * 2 ^ 149 = eulerScaleNum * (45 * k * 2 ^ j * 2 ^ (137 - j)) + 10 * k * 2 ^ 137 := by
    rw [hshift, eulerScaleDen, eulerScaleNum]
    omega
  have hrest : 2 * (10 * k * 2 ^ 137) < eulerScaleNum * 2 ^ (137 - j) := by
    calc 2 * (10 * k * 2 ^ 137) = 20 * k * 2 ^ j * 2 ^ (137 - j) := by
          rw [Nat.mul_assoc _ (2 ^ j), ← pow_add, Nat.add_sub_cancel' (by omega)]; omega
      _ < eulerScaleNum * 2 ^ (137 - j) := by
          refine Nat.mul_lt_mul_of_pos_right ?_ (by positivity)
          rw [eulerScaleNum]
          rw [Nat.mul_assoc] at hhi ⊢
          omega
  rw [binary32OfRatio_eq_normal hlo hhi (by omega) hquot hrest, binary32Units_normal hlo hhi (by omega), hshift]

theorem eulerReference_of_zero {raw : Half} (h : sext16 raw = 0) : eulerReference raw = 0x00000000#32 := by
  rw [eulerReference, h, binary32OfRatio, Int.natAbs_zero, Nat.zero_mul, if_pos rfl]

/-- The value of the reference at every raw value, in units of `2^-149`. -/
theorem binary32Units_eulerReference (raw : Half) :
    binary32Units (eulerReference raw) = some (45 * sext16 raw * 2 ^ 137) := by
  by_cases hzero : sext16 raw = 0
  · rw [eulerReference_of_zero hzero, hzero]
    rfl
  · rw [eulerReference, binary32Units_euler (by omega) (natAbs_sext16_le raw)]
    by_cases hneg : sext16 raw < 0
    · simp only [hneg, decide_true, if_true]
      congr 1
      omega
    · simp only [hneg, decide_false, Bool.false_eq_true, if_false]
      congr 1
      omega

/-- Settles O32: the value is `raw * 45` units of `2^137`, and the raw value 0 is no quotient to round. -/
theorem eulerReferenceIsExact : Obligations.EulerReferenceIsExact := by
  unfold Obligations.EulerReferenceIsExact
  refine ⟨eulerReference_of_zero rfl, fun raw => ⟨_, binary32Units_eulerReference raw, ?_⟩⟩
  omega

/-! ### Every allowed `EulerScaleFn` (R186, log entry 7) -/

/-- The source's constraint, as a statement about the pattern's value. -/
theorem withinTolerance_iff {raw : Half} {w : Word} :
    withinTolerance raw w = true ↔
      ∃ v : Int, binary32Units w = some v ∧
        (v * 9102222 - sext16 raw * 100000 * 2 ^ 149) * 1000 ≤ 9102222 * 2 ^ 149 ∧
        -(9102222 * 2 ^ 149) ≤ (v * 9102222 - sext16 raw * 100000 * 2 ^ 149) * 1000 := by
  unfold withinTolerance
  cases hv : binary32Units w with
  | none => simp
  | some v =>
    rw [decide_eq_true_iff, eulerScaleNum, eulerScaleDen]
    constructor
    · intro h
      exact ⟨v, rfl, by omega, by omega⟩
    · rintro ⟨v, ⟨⟩, hupper, hlower⟩
      omega

theorem withinTolerance_eulerReference (raw : Half) : withinTolerance raw (eulerReference raw) = true := by
  have hmax := natAbs_sext16_le raw
  refine withinTolerance_iff.2 ⟨_, binary32Units_eulerReference raw, ?_, ?_⟩ <;> omega

theorem mem_of_eulerDeviation {table : List (Half × Word)} {raw : Half} {w : Word}
    (h : eulerDeviation table raw = some w) : (raw, w) ∈ table := by
  induction table with
  | nil => cases h
  | cons e table ih =>
    obtain ⟨r, v⟩ := e
    rw [eulerDeviation] at h
    split at h
    · next heq => cases h; simp [heq]
    · exact List.mem_cons_of_mem _ (ih h)

/-- Settles O33: a listed value is within the tolerance because the parameters are allowed, any other is the reference. -/
theorem eulerScaleIsWithinTolerance : Obligations.EulerScaleIsWithinTolerance := by
  unfold Obligations.EulerScaleIsWithinTolerance
  intro cfg raw hvalid
  refine withinTolerance_iff.1 ?_
  unfold eulerScale
  cases hlisted : eulerDeviation cfg.eulerTable raw with
  | none => exact withinTolerance_eulerReference raw
  | some w =>
    simp only [validConfig, Bool.and_eq_true, List.all_eq_true] at hvalid
    obtain ⟨⟨-, htable⟩, -⟩ := hvalid
    rw [Option.getD_some]
    exact htable (raw, w) (mem_of_eulerDeviation hlisted)

end Sys2Proof.Machine
end

section
/-! ## The step: what a consumed byte leaves in each register, totality, priority (R40, R229) -/

namespace Sys2Proof

/-- The parser state after the byte `c`: the transitions of the byte rules (R120 to R161). -/
def ParserState.afterByte (i : BitVec 6) (pt c : Byte) : ParserState → ParserState
  | .zero => if c = sync0 then .syncS else .zero
  | .syncS => if c = sync1 then .syncSn else .zero
  | .syncSn => if c = sync2 then .syncSnp else .zero
  | .syncSnp => .type
  | .type => if dataLength pt = 0 then .checkHigh else .payload
  | .payload => if i.toNat + 1 = dataLength pt then .checkHigh else .payload
  | .checkHigh => .checkLow
  | .checkLow => .zero

end Sys2Proof

namespace Sys2Proof.Machine

/-! ### What a consumed byte leaves in each register -/

section Conclude

variable (s : State)

@[simp] theorem State.conclude_idx : s.conclude.idx = s.idx := by
  unfold State.conclude; split <;> simp
@[simp] theorem State.conclude_config : s.conclude.config = s.config := by
  unfold State.conclude; split <;> simp
@[simp] theorem State.conclude_inputs : s.conclude.inputs = s.inputs := by
  unfold State.conclude; split <;> simp

end Conclude

/-- Every register but the Device State after a consumed byte: each Packet register has one parser state that writes it
(R22 to R26), the report one that makes it (R41). -/
structure ByteEffect (c : Byte) (s t : State) : Prop where
  state : t.state = s.state.afterByte s.idx s.packetType c
  idx : t.idx = if s.state = .type then 0#6 else if s.state = .payload then s.idx + 1#6 else s.idx
  packetType : t.packetType = if s.state = .syncSnp then c else s.packetType
  address : t.address = if s.state = .type then c else s.address
  data : t.data = if s.state = .payload then (s.storePayload c).data else s.data
  checksum1 : t.checksum1 = if s.state = .checkHigh then c else s.checksum1
  checksum0 : t.checksum0 = if s.state = .checkLow then c else s.checksum0
  frameDone : t.frameDone = decide (s.state = .checkLow)
  frameOk : t.frameDone = false → t.frameOk = false
  config : t.config = s.config
  inputs : t.inputs = s.inputs

/-- Each outcome of `consumeByte_cases` is a chain of named updates, whose fields the laws of `State` give. -/
theorem consumeByte_effect {c : Byte} {s t : State} (h : consumeByte c s = .next t) : ByteEffect c s t := by
  obtain ⟨hst, rfl⟩ | ⟨hst, rfl⟩ | ⟨hst, rfl⟩ | ⟨hst, rfl⟩ | ⟨hst, rfl⟩ | ⟨hst, rfl⟩ | ⟨hst, rfl⟩ | ⟨hst, -, rfl⟩ |
    ⟨hst, -, rfl⟩ := consumeByte_cases h
  all_goals constructor <;> simp [hst, ParserState.afterByte, State.recordType, State.length] <;> rfl

/-! ### Totality (R229) -/

theorem consumeByte_total (c : Byte) (s : State) : ∃ t, consumeByte c s = .next t := by
  unfold consumeByte
  cases classify s.state c with
  | ckl => exact ⟨_, exec_ckl s c⟩
  | _ => exact ⟨_, rfl⟩

theorem consumeBytes_total (bytes : List Byte) (s : State) : ∃ t, consumeBytes bytes s = .next t := by
  induction bytes generalizing s with
  | nil => exact ⟨s, rfl⟩
  | cons c bytes ih =>
    obtain ⟨t, ht⟩ := consumeByte_total c s
    rw [consumeBytes_cons s ht]
    exact ih t

@[simp] theorem exec_reset (s : State) : exec .reset s = .next (State.initial s.config s.inputs) := rfl
@[simp] theorem exec_resync (s : State) : exec .resync s = .next (s.goto .zero).noReport := rfl

theorem exec_total (i : Instr) (s : State) : ∃ t, exec i s = .next t := by
  cases i with
  | ckl c => exact ⟨_, exec_ckl s c⟩
  | cmd a => exact consumeBytes_total (commandFrame a) s
  | _ => exact ⟨_, rfl⟩

theorem execAll_total (is : List Instr) (s : State) : ∃ t, execAll is s = .next t := by
  induction is generalizing s with
  | nil => exact ⟨s, rfl⟩
  | cons i is ih =>
    obtain ⟨t, ht⟩ := exec_total i s
    rw [execAll_cons s ht]
    exact ih t

/-- Settles O40: every instruction answers a next state, so every list of them does. -/
theorem stepIsTotal : Obligations.StepIsTotal := by
  unfold Obligations.StepIsTotal
  exact ⟨fun s => execAll_total _ _, exec_total⟩

/-! ### Priority (R229) -/

section Priority

variable {s : State} {p : Ports} {ps : List Ports}

theorem step_of_rst (hrst : s.sampledPorts.rst = true) : step s = exec .reset s.beginStep := by
  rw [step, oneStep, selectEvents, if_pos hrst, execAll_singleton]

theorem State.beginStep_of_cons (h : s.inputs = p :: ps) :
    s.beginStep = { s with inputs := ps, frameDone := false, frameOk := false } := by
  change { s with inputs := s.inputs.tail, frameDone := false, frameOk := false } = _
  rw [h, List.tail_cons]

theorem State.afterConsume_of_cons (h : s.inputs = p :: ps) :
    s.afterConsume = { s with
      inputs := ps, frameDone := false, frameOk := false
      newFwString := if p.fwConsume = true then false else s.newFwString } := by
  rw [State.afterConsume_frame, State.sampledPorts_cons s h, h, List.tail_cons]

end Priority

/-- Settles O38: `rst` selects RESET alone; otherwise the step's last event runs on what `fw_consume` left. -/
theorem stepPriority : Obligations.StepPriority := by
  unfold Obligations.StepPriority
  refine ⟨fun s p ps hin => ?_, fun s hin => ?_⟩
  · have hp := State.sampledPorts_cons s hin
    refine ⟨fun hrst => ?rst, ?_⟩
    case rst => rw [step_of_rst (hp ▸ hrst), State.beginStep_of_cons hin]
    rintro hrst b rfl
    rw [step_eq_exec_afterConsume (hp ▸ hrst), hp, ← State.afterConsume_of_cons hin]
    exact ⟨fun hresync => by simp [hresync], fun hresync hvalid => by simp [hresync, hvalid],
      fun hresync hvalid => by simp [hresync, hvalid]⟩
  · have hp := State.sampledPorts_nil s hin
    have htail : s.inputs.tail = s.inputs := by rw [hin, List.tail_nil]
    have hquiet := idleChangesNothing.2 s
    rw [hp, htail] at hquiet
    exact hquiet rfl rfl rfl

/-- Settles O39: with no other port asserted the byte's instruction is the step's only event. -/
theorem stepRunsTheDecodedByte : Obligations.StepRunsTheDecodedByte := by
  unfold Obligations.StepRunsTheDecodedByte
  intro s c ps hin
  have hp := State.sampledPorts_cons s hin
  refine ⟨rfl, ?_⟩
  rw [step_eq_exec_afterConsume (by rw [hp]; rfl), hp, State.afterConsume_of_cons hin]
  rfl

/-- Settles O41: the flag is cleared before the byte is consumed, and the firmware decode of an accepted frame sets it. -/
theorem setWinsOverClear : Obligations.SetWinsOverClear := by
  unfold Obligations.SetWinsOverClear
  intro s c hst hp haddr hsum
  have hstep : step s = .next (s.afterConsume.setChecksum0 c).conclude := by
    rw [step_eq_exec_afterConsume (by rw [hp]), hp, hst]
    exact exec_ckl _ _
  have hvalid : (s.afterConsume.setChecksum0 c).packetValid = true :=
    State.packetValid_setChecksum0_iff.2 (by simpa using hsum)
  have hdecode : (s.afterConsume.setChecksum0 c).fieldDecode = (s.afterConsume.setChecksum0 c).decodeFw := by
    simp [State.fieldDecode, haddr]
  rw [State.conclude_of_valid hvalid, hdecode] at hstep
  refine ⟨_, hstep, rfl, rfl, rfl, ?_⟩
  simp [State.decodeFw, State.readData]

end Sys2Proof.Machine
end

section
/-! ## Port events and the readout: reset, abort, and what no port shows (R42, R221, R226, R228, R250) -/

namespace Sys2Proof.Machine

/-- Settles O34: RESET is the reset state of the parameters, with the inputs to come kept. -/
theorem resetSetsEveryRegister : Obligations.ResetSetsEveryRegister := by
  unfold Obligations.ResetSetsEveryRegister
  exact fun s => ⟨_, exec_reset s, rfl, rfl, rfl, rfl, rfl, rfl, rfl, rfl, rfl, rfl, rfl, rfl, rfl⟩

/-- Settles O35: the reset state is one and the same for RESET and for the model. -/
theorem stateAfterReset : Obligations.StateAfterReset := by
  unfold Obligations.StateAfterReset
  exact ⟨rfl, rfl, exec_reset State.reset, fun cfg ins => ⟨rfl, rfl, rfl⟩⟩

/-- Settles O36: the two instructions as they are. -/
theorem abortAndConsumeEffects : Obligations.AbortAndConsumeEffects := by
  unfold Obligations.AbortAndConsumeEffects
  exact fun s => ⟨exec_resync s, exec_fwConsume s⟩

/-- Settles O43: in a sync state a byte writes `state` alone, which the readout does not hold. -/
theorem syncProgressIsInvisible : Obligations.SyncProgressIsInvisible := by
  unfold Obligations.SyncProgressIsInvisible
  refine ⟨fun s st i => rfl, fun s t c hsync hexec => ?_⟩
  rw [← consumeByte_eq_exec] at hexec
  obtain ⟨-, rfl⟩ | ⟨-, rfl⟩ | ⟨-, rfl⟩ | ⟨hst, -⟩ | ⟨hst, -⟩ | ⟨hst, -⟩ | ⟨hst, -⟩ | ⟨hst, -⟩ | ⟨hst, -⟩ :=
    consumeByte_cases hexec
  iterate 3 rfl
  all_goals simp [hst] at hsync

/-! ### The parser's way to `ZERO` (R124, R220 to R223, R232) -/

/-- Within a frame only the low checksum byte leads to `ZERO` (R124). -/
theorem afterByte_eq_zero {i : BitVec 6} {pt c : Byte} {st : ParserState}
    (hzero : st ≠ .zero) (hS : st ≠ .syncS) (hSn : st ≠ .syncSn) (h : st.afterByte i pt c = .zero) :
    st = .checkLow := by
  cases st with
  | zero => exact absurd rfl hzero
  | syncS => exact absurd rfl hS
  | syncSn => exact absurd rfl hSn
  | syncSnp | checkHigh => cases h
  | type | payload => rw [ParserState.afterByte] at h; split at h <;> cases h
  | checkLow => rfl

/-- Settles O9: the three advances and, over all steps, the one transition of a frame that ends it. -/
theorem syncCharactersAdvance : Obligations.SyncCharactersAdvance := by
  unfold Obligations.SyncCharactersAdvance
  refine ⟨⟨rfl, rfl, rfl⟩, fun s => ⟨rfl, rfl, rfl⟩, fun s t c hst hexec => ?_, fun s t hzero hS hSn hstep ht => ?_⟩
  · rw [← consumeByte_eq_exec] at hexec
    rw [(consumeByte_effect hexec).state, hst]
    rfl
  · obtain ⟨hrst, -⟩ | ⟨-, hresync, -⟩ | ⟨hrst, hresync, hvalid, hbyte⟩ | ⟨-, -, -, rfl⟩ := step_cases hstep
    · exact .inl hrst
    · exact .inr (.inl hresync)
    · have hafter := (consumeByte_effect hbyte).state
      rw [ht, State.afterConsume_state] at hafter
      exact .inr (.inr ⟨afterByte_eq_zero hzero hS hSn hafter.symm, by simp [consumesByte, hrst, hresync, hvalid]⟩)
    · exact absurd (by simpa using ht) hzero

/-- The failures a consumed byte raises (R220): outside `CHECK_LOW` only a sync mismatch, which leads to `ZERO`. -/
theorem failureClass_decodeByte_cases (s : State) (st : ParserState) (c : Byte) :
    (st ≠ .checkLow ∧ failureClass (decodeByte st c) s = none) ∨
    (st ≠ .checkLow ∧ failureClass (decodeByte st c) s = some .syncMiss ∧
      st.afterByte s.idx s.packetType c = .zero) ∨
    st = .checkLow := by
  cases st with
  | zero =>
    rw [decodeByte_zero]
    split
    · exact .inl ⟨nofun, rfl⟩
    · next hc => exact .inr (.inl ⟨nofun, rfl, if_neg hc⟩)
  | syncS =>
    rw [decodeByte_syncS]
    split
    · exact .inl ⟨nofun, rfl⟩
    · next hc => exact .inr (.inl ⟨nofun, rfl, if_neg hc⟩)
  | syncSn =>
    rw [decodeByte_syncSn]
    split
    · exact .inl ⟨nofun, rfl⟩
    · next hc => exact .inr (.inl ⟨nofun, rfl, if_neg hc⟩)
  | syncSnp =>
    rw [decodeByte_syncSnp]
    split_ifs <;> exact .inl ⟨nofun, rfl⟩
  | type | payload | checkHigh => exact .inl ⟨nofun, rfl⟩
  | checkLow => exact .inr (.inr rfl)

theorem afterByte_of_failure {s : State} {c : Byte} (h : failureClass (decodeByte s.state c) s ≠ none) :
    s.state.afterByte s.idx s.packetType c = .zero := by
  obtain ⟨-, hnone⟩ | ⟨-, -, hafter⟩ | hlow := failureClass_decodeByte_cases s s.state c
  · exact absurd hnone h
  · exact hafter
  · rw [hlow]; rfl

/-- A checksum mismatch is the low checksum byte that does not match, and nothing else (R222). -/
theorem failureClass_eq_checksumMismatch_iff {s : State} {c : Byte} :
    failureClass (decodeByte s.state c) s = some .checksumMismatch ↔
      s.state = .checkLow ∧
        s.checksum1.toNat * 256 + c.toNat ≠ (computedChecksum s.packetType s.address s.data).toNat := by
  obtain ⟨hst, hclass⟩ | ⟨hst, hclass, -⟩ | hst := failureClass_decodeByte_cases s s.state c
  · simp [hclass, hst]
  · simp [hclass, hst]
  · have hmatch : be16 s.checksum1 c = s.checksum ↔
        s.checksum1.toNat * 256 + c.toNat = (computedChecksum s.packetType s.address s.data).toNat := be16_eq_iff
    rw [ne_eq, ← hmatch, hst, decodeByte_checkLow, failureClass]
    split_ifs <;> simp_all

/-- `frame_ok` is 0 in a step without a report (R41). -/
theorem step_frameOk {s t : State} (h : step s = .next t) (hquiet : t.frameDone = false) : t.frameOk = false := by
  obtain ⟨-, rfl⟩ | ⟨-, -, rfl⟩ | ⟨-, -, -, hbyte⟩ | ⟨-, -, -, rfl⟩ := step_cases h
  · rfl
  · rfl
  · exact (consumeByte_effect hbyte).frameOk hquiet
  · rfl

/-- Settles O42: a failure's byte leads to `ZERO`, a mismatch is the one rejection, and the report is the low checksum
byte's alone. -/
theorem failuresReturnToZero : Obligations.FailuresReturnToZero := by
  unfold Obligations.FailuresReturnToZero
  refine ⟨fun s t c hexec => ?_, fun s t hstep => ?_⟩
  · rw [← consumeByte_eq_exec] at hexec
    exact ⟨fun hfail => (consumeByte_effect hexec).state.trans (afterByte_of_failure hfail),
      failureClass_eq_checksumMismatch_iff.trans (consumeByte_rejects_iff hexec).symm⟩
  · refine ⟨?_, step_frameOk hstep⟩
    obtain ⟨hconsumes, hbyte⟩ | ⟨hnone, hquiet⟩ := step_consumes_or_makes_no_report hstep
    · simp [(consumeByte_effect hbyte).frameDone, hconsumes]
    · simp [hnone, hquiet]

end Sys2Proof.Machine
end

section
/-! ## The invariant and the frames of the Packet registers (R22 to R26, R43, R65, R74) -/

namespace Sys2Proof.Machine

/-! ### Every step keeps the invariant (R43) -/

section Transitions

variable {i : BitVec 6} {pt c : Byte} {st : ParserState}

/-- `PAYLOAD` is entered, or kept, while a payload byte is still to come. -/
theorem afterByte_eq_payload_iff :
    st.afterByte i pt c = .payload ↔
      st = .type ∧ dataLength pt ≠ 0 ∨ st = .payload ∧ i.toNat + 1 ≠ dataLength pt := by
  cases st <;> simp [ParserState.afterByte] <;> split <;> simp

/-- `CHECK_HIGH` is entered at the end of the payload. -/
theorem afterByte_eq_checkHigh_iff :
    st.afterByte i pt c = .checkHigh ↔
      st = .type ∧ dataLength pt = 0 ∨ st = .payload ∧ i.toNat + 1 = dataLength pt := by
  cases st <;> simp [ParserState.afterByte] <;> split <;> simp

theorem afterByte_eq_checkLow_iff : st.afterByte i pt c = .checkLow ↔ st = .checkHigh := by
  cases st <;> simp [ParserState.afterByte] <;> split <;> simp

end Transitions

section Invariant

variable {s t : State} {c : Byte}

/-- The index within a payload grows with each byte and stays inside its 6 bits (log entry 10). -/
theorem ByteEffect.toNat_idx_of_payload (heffect : ByteEffect c s t) (hst : s.state = .payload)
    (hlt : s.idx.toNat < s.length) : t.idx.toNat = s.idx.toNat + 1 := by
  have hle : s.length ≤ 60 := dataLength_le s.packetType
  have hidx : (s.storePayload c).idx.toNat = s.idx.toNat + 1 := State.toNat_storePayload_idx c (by omega)
  rw [heffect.idx, if_neg (by simp [hst]), if_pos hst]
  exact hidx

theorem ByteEffect.toNat_idx_of_type (heffect : ByteEffect c s t) (hst : s.state = .type) : t.idx.toNat = 0 := by
  rw [heffect.idx, if_pos hst]
  rfl

/-- The length of the Packet stands once the type byte has come. -/
theorem ByteEffect.length_eq (heffect : ByteEffect c s t) (hst : s.state ≠ .syncSnp) : t.length = s.length := by
  rw [State.length, heffect.packetType, if_neg hst, State.length]

/-- While a payload is received the index stays below its length (R43). -/
theorem ByteEffect.idx_lt_length (heffect : ByteEffect c s t) (hpay : s.state = .payload → s.idx.toNat < s.length)
    (ht : t.state = .payload) : t.idx.toNat < t.length := by
  rw [heffect.state, afterByte_eq_payload_iff] at ht
  obtain ⟨hst, hne⟩ | ⟨hst, hne⟩ := ht
  · rw [heffect.toNat_idx_of_type hst, heffect.length_eq (by simp [hst])]
    exact Nat.pos_of_ne_zero hne
  · rw [heffect.toNat_idx_of_payload hst (hpay hst), heffect.length_eq (by simp [hst])]
    exact Nat.lt_of_le_of_ne (hpay hst) hne

theorem consumeByte_keeps_inv (hinv : StateInv s) (h : consumeByte c s = .next t) : StateInv t := by
  have heffect := consumeByte_effect h
  refine ⟨heffect.config ▸ hinv.config, ?memory, heffect.idx_lt_length hinv.payload, fun ht => ?complete⟩
  case memory =>
    rw [heffect.data]
    split
    · exact State.storePayload_wf hinv.memory c
    · exact hinv.memory
  case complete =>
    rw [heffect.state, afterByte_eq_checkHigh_iff, afterByte_eq_checkLow_iff] at ht
    obtain (⟨hst, heq⟩ | ⟨hst, heq⟩) | hst := ht
    · rw [heffect.toNat_idx_of_type hst, heffect.length_eq (by simp [hst])]
      exact heq.symm
    · rw [heffect.toNat_idx_of_payload hst (hinv.payload hst), heffect.length_eq (by simp [hst])]
      exact heq
    · rw [heffect.idx, if_neg (by simp [hst]), if_neg (by simp [hst]), heffect.length_eq (by simp [hst])]
      exact hinv.complete (.inl hst)

/-- In `ZERO` the invariant asks nothing of the index. -/
theorem StateInv.of_zero (hst : t.state = .zero) (hcfg : validConfig t.config = true) (hwf : Memory.wf t.data = true) :
    StateInv t :=
  ⟨hcfg, hwf, fun h => by simp [hst] at h, fun h => by simp [hst] at h⟩

theorem wf_initPkt_data {cfg : Config} (h : validConfig cfg = true) : Memory.wf cfg.initPkt.data = true := by
  rw [validConfig, Bool.and_eq_true] at h
  exact h.2

theorem StateInv.afterConsume (hinv : StateInv s) : StateInv s.afterConsume := by
  rw [State.afterConsume_frame]
  exact ⟨hinv.config, hinv.memory, hinv.payload, hinv.complete⟩

end Invariant

/-- Settles O44: in `ZERO` it remains to check the reference parameters and the empty buffer. -/
theorem resetMeetsTheInvariant : Obligations.ResetMeetsTheInvariant := by
  unfold Obligations.ResetMeetsTheInvariant
  exact .of_zero rfl (by decide) rfl

/-- Settles O45: each event of a step keeps the invariant; only a consumed byte can break its clauses on the index. -/
theorem stepKeepsTheInvariant : Obligations.StepKeepsTheInvariant := by
  unfold Obligations.StepKeepsTheInvariant
  intro s t hinv hstep
  have hbegun := hinv.afterConsume
  obtain ⟨-, rfl⟩ | ⟨-, -, rfl⟩ | ⟨-, -, -, hbyte⟩ | ⟨-, -, -, rfl⟩ := step_cases hstep
  · exact .of_zero rfl hinv.config (wf_initPkt_data hinv.config)
  · exact .of_zero rfl hbegun.config hbegun.memory
  · exact consumeByte_keeps_inv hbegun hbyte
  · exact ⟨hbegun.config, hbegun.memory, hbegun.payload, hbegun.complete⟩

/-! ### Who writes the Packet registers and the buffer (R22 to R26, R65) -/

/-- The buffer after a consumed byte, index by index. -/
theorem ByteEffect.readData {c : Byte} {s t : State} (heffect : ByteEffect c s t) (hwf : Memory.wf s.data = true)
    (i : Nat) : t.readData i = if s.state = .payload ∧ i = s.idx.toNat then c else s.readData i := by
  rw [State.readData, heffect.data]
  by_cases hst : s.state = .payload
  · simp only [hst, if_true, true_and]
    exact State.readData_storePayload c hwf i
  · simp only [hst, if_false, false_and, State.readData]

/-- A register with one writing state was left alone or written in that state. -/
theorem kept_or_written {α : Type} {p : Prop} [Decidable p] {old new c : α} (h : new = if p then c else old) :
    new = old ∨ p ∧ new = c := by
  by_cases hp : p
  · exact .inr ⟨hp, h.trans (if_pos hp)⟩
  · exact .inl (h.trans (if_neg hp))

/-- Settles O49: a byte consumed in another state leaves the register, and so does every other event of a step without
`rst`. -/
theorem packetRegistersHaveOneWriter : Obligations.PacketRegistersHaveOneWriter := by
  unfold Obligations.PacketRegistersHaveOneWriter
  intro s t hstep hrst hwf
  obtain ⟨hreset, -⟩ | ⟨-, -, rfl⟩ | ⟨-, hresync, hvalid, hbyte⟩ | ⟨-, -, -, rfl⟩ := step_cases hstep
  · simp [hreset] at hrst
  · simp [State.readData]
  · have hconsumes : consumesByte s.sampledPorts = true := by simp [consumesByte, hrst, hresync, hvalid]
    have heffect := consumeByte_effect hbyte
    have hread (i : Nat) := kept_or_written (heffect.readData (by simpa using hwf) i)
    simp only [State.afterConsume_state, State.afterConsume_idx, and_assoc] at hread
    simp only [hconsumes, true_and]
    refine ⟨?_, ?_, ?_, ?_, ?_⟩
    · simpa using kept_or_written heffect.packetType
    · simpa using kept_or_written heffect.address
    · simpa using kept_or_written heffect.checksum1
    · simpa using kept_or_written heffect.checksum0
    · exact fun i => by simpa [State.readData] using hread i
  · simp [State.readData]

/-- Settles O16: the one event that stores does so at the index, which the invariant keeps below 60. -/
theorem bufferTailIsNeverWritten : Obligations.BufferTailIsNeverWritten := by
  unfold Obligations.BufferTailIsNeverWritten
  intro s t i hinv hrst hi hstep
  obtain ⟨-, -, -, -, hdata⟩ := packetRegistersHaveOneWriter s t hstep hrst hinv.memory
  refine (hdata i).resolve_right fun ⟨hst, _, hidx, _⟩ => ?_
  have hlt := hinv.idx_le_of_payload hst
  omega

/-- Settles O47: the buffer's one writer is the payload byte, and only PL, CMD and RESET execute it or replace it. -/
theorem onlyPayloadBytesStore : Obligations.OnlyPayloadBytesStore := by
  unfold Obligations.OnlyPayloadBytesStore
  intro i s t hpl hcmd hreset hexec k
  cases i with
  | pl c => exact absurd rfl (hpl c)
  | cmd a => exact absurd rfl (hcmd a)
  | reset => exact absurd rfl hreset
  | ckl c =>
    rw [exec_ckl] at hexec
    cases hexec
    simp [State.readData]
  | _ => cases hexec; rfl

/-! ### What no instruction changes: the parameters and the inputs to come (R40, R43) -/

theorem consumeBytes_config_inputs {bytes : List Byte} {s t : State} (h : consumeBytes bytes s = .next t) :
    t.config = s.config ∧ t.inputs = s.inputs := by
  induction bytes generalizing s with
  | nil => cases h; exact ⟨rfl, rfl⟩
  | cons c bytes ih =>
    obtain ⟨u, hu⟩ := consumeByte_total c s
    rw [consumeBytes_cons s hu] at h
    obtain ⟨hcfg, hin⟩ := ih h
    have heffect := consumeByte_effect hu
    exact ⟨hcfg.trans heffect.config, hin.trans heffect.inputs⟩

/-- Settles O48: no rule writes them, and a sequence of bytes keeps them byte by byte. -/
theorem noInstructionChangesParametersOrInputs : Obligations.NoInstructionChangesParametersOrInputs := by
  unfold Obligations.NoInstructionChangesParametersOrInputs
  intro i s t hexec
  cases i with
  | cmd a => exact consumeBytes_config_inputs hexec
  | ckl c =>
    rw [exec_ckl] at hexec
    cases hexec
    simp
  | _ => cases hexec; exact ⟨rfl, rfl⟩

/-! ### What later decoding depends on (R74) -/

/-- The registers that decode the coming bytes, after a step without `rst`. -/
theorem step_decoding_registers {s t : State} (hrst : s.sampledPorts.rst = false) (h : step s = .next t) :
    t.state = (if s.sampledPorts.resync then .zero
      else if s.sampledPorts.byteValid then s.state.afterByte s.idx s.packetType s.sampledPorts.byteIn else s.state) ∧
    t.idx = (if consumesByte s.sampledPorts then
      (if s.state = .type then 0#6 else if s.state = .payload then s.idx + 1#6 else s.idx) else s.idx) ∧
    t.packetType = if consumesByte s.sampledPorts ∧ s.state = .syncSnp then s.sampledPorts.byteIn else s.packetType := by
  obtain ⟨hreset, -⟩ | ⟨-, hresync, rfl⟩ | ⟨-, hresync, hvalid, hbyte⟩ | ⟨-, hresync, hvalid, rfl⟩ := step_cases h
  · simp [hreset] at hrst
  · simp [consumesByte, hresync]
  · have heffect := consumeByte_effect hbyte
    simp [heffect.state, heffect.idx, heffect.packetType, consumesByte, hrst, hresync, hvalid]
  · simp [consumesByte, hresync, hvalid]

/-- Settles O50: the selection reads the parser state alone, and `state`, `idx` and `packet_type` after a byte are
functions of the three and the byte. -/
theorem decodingDependsOnThreeRegisters : Obligations.DecodingDependsOnThreeRegisters := by
  unfold Obligations.DecodingDependsOnThreeRegisters
  intro s s' t t' hst hidx hpt hports hrst hstep hstep'
  obtain ⟨hstate, hindex, htype⟩ := step_decoding_registers hrst hstep
  obtain ⟨hstate', hindex', htype'⟩ := step_decoding_registers (hports ▸ hrst) hstep'
  refine ⟨by rw [hst, hports], ?_, ?_, ?_⟩
  · rw [hstate, hstate', hst, hidx, hpt, hports]
  · rw [hindex, hindex', hst, hidx, hports]
  · rw [htype, htype', hst, hpt, hports]

/-! ### Canonical buffers (log entry 6) -/

namespace Memory

theorem read_head {k : Nat} {v : Byte} {m : List Host.Cell} : read ((k, v) :: m) k = v := if_pos rfl

/-- The first index a canonical list names is the first that does not read as unlisted, so lists that read alike name the
same one. -/
theorem eq_of_read_eq {lo : Nat} {m n : List Host.Cell} (hm : wfFrom lo m = true) (hn : wfFrom lo n = true)
    (h : ∀ i, read m i = read n i) : m = n := by
  induction m generalizing lo n with
  | nil =>
    cases n with
    | nil => rfl
    | cons e n =>
      obtain ⟨k, v⟩ := e
      obtain ⟨-, -, hv, -⟩ := wfFrom_cons.1 hn
      exact absurd ((h k).trans read_head).symm hv
  | cons e m ih =>
    obtain ⟨k, v⟩ := e
    obtain ⟨hk, hcap, hv, hm'⟩ := wfFrom_cons.1 hm
    cases n with
    | nil => exact absurd (read_head.symm.trans (h k)) hv
    | cons e n =>
      obtain ⟨k', v'⟩ := e
      obtain ⟨hk', hcap', hv', hn'⟩ := wfFrom_cons.1 hn
      obtain hlt | rfl | hgt := Nat.lt_trichotomy k k'
      · have hbelow := read_below (wfFrom_cons.2 ⟨Nat.le_refl k', hcap', hv', hn'⟩) hlt
        exact absurd (read_head.symm.trans ((h k).trans hbelow)) hv
      · have hhead : v = v' := read_head.symm.trans ((h k).trans read_head)
        have htail (i : Nat) : read m i = read n i := by
          by_cases hi : i < k + 1
          · rw [read_below hm' hi, read_below hn' hi]
          · have hne : k ≠ i := by omega
            simpa only [read, if_neg hne] using h i
        rw [hhead, ih hm' hn' htail]
      · have hbelow := read_below (wfFrom_cons.2 ⟨Nat.le_refl k, hcap, hv, hm'⟩) hgt
        exact absurd (read_head.symm.trans ((h k').symm.trans hbelow)) hv'

end Memory

/-- Settles O46: past the 64 indices of the buffer every canonical list reads as unlisted. -/
theorem canonicalBuffersAreEqual : Obligations.CanonicalBuffersAreEqual := by
  unfold Obligations.CanonicalBuffersAreEqual
  intro m n hm hn h
  refine Memory.eq_of_read_eq hm hn fun i => ?_
  by_cases hi : i < 64
  · exact h i hi
  · have hcap : dataCap ≤ i := Nat.le_of_not_lt hi
    rw [Memory.read_beyond hm hcap, Memory.read_beyond hn hcap]

end Sys2Proof.Machine
end

section
/-! ## The Field Decoder: what its operations never write and never read (R180, R194, R195) -/

namespace Sys2Proof.Machine

/-! ### The five operations as one function -/

/-- What the operation `op` of the Field Decoder makes of a state (R180). -/
def State.decodeWith (op : FieldOp) (s : State) : State :=
  match op with
  | .fw => s.decodeFw
  | .health => s.decodeHealth
  | .euler => s.decodeEuler
  | .gyro => s.decodeGyro
  | .nop => s

/-- `s` with the Device State `d`. -/
def State.withDevice (s : State) (d : DeviceState) : State :=
  { s with
    roll := d.roll, pitch := d.pitch, yaw := d.yaw, rollRate := d.rollRate, pitchRate := d.pitchRate
    yawRate := d.yawRate, gyroX := d.gyroX, gyroY := d.gyroY, gyroZ := d.gyroZ, error := d.error
    firmwareString := d.firmwareString, newFwString := d.newFwString }

section DecodeWith

variable (op : FieldOp) (s : State)

theorem exec_instr : exec op.instr s = .next (s.decodeWith op) := by
  cases op <;> rfl

theorem State.fieldDecode_eq_decodeWith : s.fieldDecode = s.decodeWith (selectField s.config s.address) := by
  unfold State.fieldDecode
  cases selectField s.config s.address <;> rfl

/-- The frame of every operation: the Device State is all it writes (R195). -/
theorem State.decodeWith_frame : s.decodeWith op = s.withDevice (s.decodeWith op).device := by
  cases op <;> rfl

theorem State.decodeWith_keeps {α : Type} (f : State → α) (hf : ∀ d, f (s.withDevice d) = f s) :
    f (s.decodeWith op) = f s := by
  rw [State.decodeWith_frame]
  exact hf _

/-- No operation clears the dirty flag (R195). -/
theorem State.decodeWith_newFwString (h : s.newFwString = true) : (s.decodeWith op).newFwString = true := by
  cases op with
  | fw => rfl
  | health | euler | gyro | nop => exact h

end DecodeWith

/-! ### What the operations read: two runs (R194, R195) -/

/-- `writtenAlike` for each register of the Device State. -/
def DeviceState.writtenAlike (old old' new new' : DeviceState) : Prop :=
  Machine.writtenAlike old.roll old'.roll new.roll new'.roll ∧
  Machine.writtenAlike old.pitch old'.pitch new.pitch new'.pitch ∧
  Machine.writtenAlike old.yaw old'.yaw new.yaw new'.yaw ∧
  Machine.writtenAlike old.rollRate old'.rollRate new.rollRate new'.rollRate ∧
  Machine.writtenAlike old.pitchRate old'.pitchRate new.pitchRate new'.pitchRate ∧
  Machine.writtenAlike old.yawRate old'.yawRate new.yawRate new'.yawRate ∧
  Machine.writtenAlike old.gyroX old'.gyroX new.gyroX new'.gyroX ∧
  Machine.writtenAlike old.gyroY old'.gyroY new.gyroY new'.gyroY ∧
  Machine.writtenAlike old.gyroZ old'.gyroZ new.gyroZ new'.gyroZ ∧
  Machine.writtenAlike old.error old'.error new.error new'.error ∧
  Machine.writtenAlike old.firmwareString old'.firmwareString new.firmwareString new'.firmwareString ∧
  Machine.writtenAlike old.newFwString old'.newFwString new.newFwString new'.newFwString

/-- A register written only under a condition that both runs share. -/
theorem writtenAlike_ite {α : Type} {p : Prop} [Decidable p] {old old' new new' : α} (h : p → new' = new) :
    writtenAlike old old' (if p then new else old) (if p then new' else old') := by
  by_cases hp : p
  · simp [hp, h hp]
  · simp [hp]

theorem writtenAlike.eq {α : Type} {old new new' : α} (h : writtenAlike old old new new') : new' = new :=
  h.elim id fun ⟨hnew, hnew'⟩ => hnew'.trans hnew.symm

/-- Runs that begin with the same registers end with the same. -/
theorem DeviceState.writtenAlike.eq {old new new' : DeviceState} (h : DeviceState.writtenAlike old old new new') :
    new' = new := by
  obtain ⟨h1, h2, h3, h4, h5, h6, h7, h8, h9, h10, h11, h12⟩ := h
  cases new
  cases new'
  simp only [DeviceState.mk.injEq]
  exact ⟨h1.eq, h2.eq, h3.eq, h4.eq, h5.eq, h6.eq, h7.eq, h8.eq, h9.eq, h10.eq, h11.eq, h12.eq⟩

section TwoRuns

variable (op : FieldOp) {s s' : State} (hcfg : s'.config = s.config) (hpt : s'.packetType = s.packetType)
  (hread : ∀ i, i < 4 ∨ i < 14 ∧ i < dataLength s.packetType → s'.readData i = s.readData i)

include hcfg hpt hread

/-- The operations read the parameters, `packet_type` and the buffer bytes 0 to 3, and of the bytes up to 13 only those
of the payload: a length above a multiple of 4 reaches the next one. -/
theorem State.decodeWith_writtenAlike :
    DeviceState.writtenAlike s.device s'.device (s.decodeWith op).device (s'.decodeWith op).device := by
  have hlen : s'.length = s.length := congrArg dataLength hpt
  have hword : 4 ∣ s.length := four_dvd_dataLength s.packetType
  have hbyte (i : Nat) (hi : i < 4 ∨ i < 14 ∧ i < s.length) : s'.readData i = s.readData i := hread i hi
  have hraw (i : Nat) (hi : i < 3 ∨ i < 13 ∧ i + 1 < s.length) :
      eulerScale s'.config (s'.eulerRaw i) = eulerScale s.config (s.eulerRaw i) := by
    rw [State.eulerRaw, State.eulerRaw, hcfg, hbyte i (by omega), hbyte (i + 1) (by omega)]
  have hpattern (i : Nat) (hi : i < 1 ∨ i < 11 ∧ i + 3 < s.length) : s'.gyroPattern i = s.gyroPattern i := by
    rw [State.gyroPattern, State.gyroPattern, hbyte i (by omega), hbyte (i + 1) (by omega), hbyte (i + 2) (by omega),
      hbyte (i + 3) (by omega)]
  cases op with
  | fw => simp [DeviceState.writtenAlike, State.decodeWith, State.decodeFw, State.device, hbyte]
  | health => simp [DeviceState.writtenAlike, State.decodeWith, State.decodeHealth, State.healthWord, State.device, hbyte]
  | euler =>
    simp only [DeviceState.writtenAlike, State.decodeWith, State.decodeEuler, State.device, hlen, writtenAlike_kept,
      and_true, and_self]
    exact ⟨.inl (hraw 0 (.inl (by decide))), .inl (hraw 2 (.inl (by decide))), writtenAlike_ite fun _ => hraw 4 (by omega),
      writtenAlike_ite fun _ => hraw 8 (by omega), writtenAlike_ite fun _ => hraw 10 (by omega),
      writtenAlike_ite fun _ => hraw 12 (by omega)⟩
  | gyro =>
    simp only [DeviceState.writtenAlike, State.decodeWith, State.decodeGyro, State.device, hlen, writtenAlike_kept,
      and_true, and_self, true_and]
    exact ⟨.inl (hpattern 0 (.inl (by decide))), writtenAlike_ite fun _ => hpattern 4 (by omega),
      writtenAlike_ite fun _ => hpattern 8 (by omega)⟩
  | nop => simp [DeviceState.writtenAlike, State.decodeWith]

/-- From the same Device State the same operation makes the same one. -/
theorem State.decodeWith_device_eq (hdev : s'.device = s.device) :
    (s'.decodeWith op).device = (s.decodeWith op).device := by
  have halike := State.decodeWith_writtenAlike op hcfg hpt hread
  rw [hdev] at halike
  exact halike.eq

end TwoRuns

/-- Settles O29: the frame of every operation, and the indices it reads are below 14. -/
theorem decoderWritesOnlyDeviceState : Obligations.DecoderWritesOnlyDeviceState := by
  unfold Obligations.DecoderWritesOnlyDeviceState
  intro op s
  have hkeeps {α : Type} (f : State → α) (hf : ∀ d, f (s.withDevice d) = f s) := s.decodeWith_keeps op f hf
  have hbelow {i : Nat} (hi : i < 4 ∨ i < 14 ∧ i < dataLength s.packetType) : i < 14 := by omega
  refine ⟨_, exec_instr op s, hkeeps State.state fun _ => rfl, hkeeps State.idx fun _ => rfl,
    hkeeps State.packetType fun _ => rfl, hkeeps State.address fun _ => rfl, hkeeps State.data fun _ => rfl,
    hkeeps State.checksum1 fun _ => rfl, hkeeps State.checksum0 fun _ => rfl, hkeeps State.frameDone fun _ => rfl,
    hkeeps State.frameOk fun _ => rfl, hkeeps State.inputs fun _ => rfl, hkeeps State.config fun _ => rfl, s.decodeWith_newFwString op, fun m hm => ?buffer,
    fun s' hcfg hpt hread => ?runs⟩
  case buffer =>
    exact ⟨_, exec_instr op _, State.decodeWith_device_eq op rfl rfl (fun i hi => hm i (hbelow hi)) rfl⟩
  case runs =>
    exact ⟨_, exec_instr op s', State.decodeWith_writtenAlike op hcfg hpt fun i hi => hread i (hbelow hi)⟩

/-- Settles O30: with a payload the bytes 0 to 3 are the payload's own, like every other byte the decoder reads. -/
theorem decoderReadsOnlyTheFramesOwnBytes : Obligations.DecoderReadsOnlyTheFramesOwnBytes := by
  unfold Obligations.DecoderReadsOnlyTheFramesOwnBytes
  intro op s m hlen hm
  refine ⟨_, _, exec_instr op s, exec_instr op _, State.decodeWith_device_eq op rfl rfl (fun i hi => hm i ?_) rfl⟩
  omega

/-- Settles O31: a valid Packet is decoded whatever its length, with the buffer's first bytes as they stand. -/
theorem shortFrameDecodesTheResidue : Obligations.ShortFrameDecodesTheResidue := by
  unfold Obligations.ShortFrameDecodesTheResidue
  intro s c hdistinct hlen hsum
  have hvalid : (s.setChecksum0 c).packetValid = true := State.packetValid_setChecksum0_iff.2 hsum
  have hshort : (s.setChecksum0 c).length = 0 := hlen
  have hdecode {a : Byte} {op : FieldOp} (haddr : s.address = a) (hop : selectField s.config a = op) :
      (s.setChecksum0 c).fieldDecode = (s.setChecksum0 c).decodeWith op := by
    rw [State.fieldDecode_eq_decodeWith, State.setChecksum0_config, State.setChecksum0_address, haddr, hop]
  refine ⟨_, exec_ckl s c, State.conclude_frameDone _, (State.conclude_frameOk _).trans hvalid, fun haddr => ?fw,
    fun haddr => ?health, fun haddr => ?euler, fun haddr => ?gyro⟩ <;> rw [State.conclude_of_valid hvalid]
  case fw => rw [hdecode haddr selectField_addrFw]; exact ⟨rfl, rfl⟩
  case health => rw [hdecode haddr (selectField_addrHealth hdistinct)]; rfl
  case euler =>
    rw [hdecode haddr (selectField_addrEuler hdistinct)]
    simp only [State.decodeWith, State.decodeEuler, hshort]
    rfl
  case gyro =>
    rw [hdecode haddr (selectField_addrGyro hdistinct)]
    simp only [State.decodeWith, State.decodeGyro, hshort]
    rfl

end Sys2Proof.Machine
end

section
/-! ## Streams of bytes: the detector, the bounds, the software call (R126, R233, R268) -/

namespace Sys2Proof.Machine

/-! ### Steps that present one byte each -/

section Step

variable {c : Byte} {s t : State}

theorem stepByte_total (c : Byte) (s : State) : ∃ t, stepByte c s = .next t :=
  stepIsTotal.1 _

/-- What a step that presents a byte leaves in each register: the byte's effect on the state with no further input. -/
theorem stepByte_effect (h : stepByte c s = .next t) :
    ByteEffect c { s with inputs := [], frameDone := false, frameOk := false } t :=
  consumeByte_effect ((step_ofByte _ rfl).symm.trans h)

theorem stepByte_state (h : stepByte c s = .next t) : t.state = s.state.afterByte s.idx s.packetType c :=
  (stepByte_effect h).state

theorem stepByte_frameDone (h : stepByte c s = .next t) : t.frameDone = decide (s.state = .checkLow) :=
  (stepByte_effect h).frameDone

/-- Every stream leads to a state, with some reports. -/
theorem fed_total (bytes : List Byte) (s : State) : ∃ t rs, Fed bytes s t rs := by
  induction bytes generalizing s with
  | nil => exact ⟨s, [], .nil⟩
  | cons c bytes ih =>
    obtain ⟨t, hstep⟩ := stepByte_total c s
    obtain ⟨u, rs, hrest⟩ := ih t
    exact ⟨u, _, .cons hstep hrest⟩

end Step

/-! ### The synchronisation detector (R126) -/

section Detector

variable {i : BitVec 6} {pt c : Byte} {st : ParserState}

theorem afterByte_eq_syncS_iff : st.afterByte i pt c = .syncS ↔ st = .zero ∧ c = sync0 := by
  cases st <;> simp [ParserState.afterByte] <;> split <;> simp

theorem afterByte_eq_syncSn_iff : st.afterByte i pt c = .syncSn ↔ st = .syncS ∧ c = sync1 := by
  cases st <;> simp [ParserState.afterByte] <;> split <;> simp

theorem afterByte_eq_syncSnp_iff : st.afterByte i pt c = .syncSnp ↔ st = .syncSn ∧ c = sync2 := by
  cases st <;> simp [ParserState.afterByte] <;> split <;> simp

end Detector

/-- Settles O11: each state of the detector is entered from the one before it by its character alone, and a byte that is
not the character is spent on the way to `ZERO`. -/
theorem synchronisationDetector : Obligations.SynchronisationDetector := by
  unfold Obligations.SynchronisationDetector
  intro s b0 b1 b2 hst
  obtain ⟨t, h0⟩ := stepByte_total b0 s
  obtain ⟨u, h1⟩ := stepByte_total b1 t
  obtain ⟨v, h2⟩ := stepByte_total b2 u
  have ht := stepByte_state h0
  have hu := stepByte_state h1
  have hv := stepByte_state h2
  rw [hst] at ht
  refine ⟨⟨v, (Fed.cons h0 (.cons h1 (.cons h2 .nil))).feed_eq, ?detects⟩, fun hb0 hb1 => ?second, fun hb0 hb1 hb2 => ?third,
    fun hb0 => ?first⟩
  case detects =>
    rw [hv, afterByte_eq_syncSnp_iff, hu, afterByte_eq_syncSn_iff, ht, afterByte_eq_syncS_iff]
    simp only [true_and, and_assoc]
    rfl
  case first => exact ⟨t, (Fed.cons h0 .nil).feed_eq, ht.trans (if_neg hb0)⟩
  case second =>
    rw [ht.trans (if_pos hb0)] at hu
    exact ⟨u, (Fed.cons h0 (.cons h1 .nil)).feed_eq, hu.trans (if_neg hb1)⟩
  case third =>
    rw [ht.trans (if_pos hb0)] at hu
    rw [hu.trans (if_pos hb1)] at hv
    exact ⟨v, (Fed.cons h0 (.cons h1 (.cons h2 .nil))).feed_eq, hv.trans (if_neg hb2)⟩

/-! ### Reports need seven bytes (R268) -/

/-- The least number of bytes from `ZERO` to a parser state. -/
def bytesFromZero : ParserState → Nat
  | .zero => 0
  | .syncS => 1
  | .syncSn => 2
  | .syncSnp => 3
  | .type => 4
  | .payload => 5
  | .checkHigh => 5
  | .checkLow => 6

theorem bytesFromZero_afterByte (i : BitVec 6) (pt c : Byte) (st : ParserState) :
    (if st = .checkLow then 7 else 0) + bytesFromZero (st.afterByte i pt c) ≤ bytesFromZero st + 1 := by
  cases st with
  | syncSnp | checkHigh | checkLow => exact Nat.le_refl _
  | zero | syncS | syncSn | type | payload =>
    simp only [ParserState.afterByte, reduceCtorEq, if_false]
    split <;> decide

/-- A byte takes the parser at most one byte further, and the report of the seventh takes all seven back. -/
theorem stepByte_bytesFromZero {c : Byte} {s t : State} (h : stepByte c s = .next t) :
    7 * t.report.length + bytesFromZero t.state ≤ bytesFromZero s.state + 1 := by
  have hreport : 7 * t.report.length = if s.state = .checkLow then 7 else 0 := by
    rw [State.report, stepByte_frameDone h]
    by_cases hst : s.state = .checkLow <;> simp [hst]
  rw [hreport, stepByte_state h]
  exact bytesFromZero_afterByte ..

theorem Fed.seven_mul_reports_le {bytes : List Byte} {s t : State} {rs : List Bool} (h : Fed bytes s t rs) :
    7 * rs.length + bytesFromZero t.state ≤ bytesFromZero s.state + bytes.length := by
  induction h with
  | nil => simp
  | cons hstep _ ih =>
    have hfirst := stepByte_bytesFromZero hstep
    rw [List.length_append, List.length_cons]
    omega

/-- Settles O56: each report takes back seven of the bytes from `ZERO`. -/
theorem reportsNeedSevenBytes : Obligations.ReportsNeedSevenBytes := by
  unfold Obligations.ReportsNeedSevenBytes
  intro s bytes hst
  obtain ⟨t, rs, hfed⟩ := fed_total bytes s
  have hle := hfed.seven_mul_reports_le
  have hzero : bytesFromZero s.state = 0 := by rw [hst]; rfl
  rw [hfed.reports_eq]
  omega

/-! ### The way back to `ZERO` (R268) -/

/-- The most bytes that can come before the parser is in `ZERO`; from `TYPE` on exactly so many come. -/
def State.bytesToZero (s : State) : Nat :=
  match s.state with
  | .zero => 0
  | .syncS => 66
  | .syncSn => 65
  | .syncSnp => 64
  | .type => 3 + s.length
  | .payload => 2 + (s.length - s.idx.toNat)
  | .checkHigh => 2
  | .checkLow => 1

theorem State.bytesToZero_le (s : State) : s.bytesToZero ≤ 66 := by
  have hlen : s.length ≤ 60 := dataLength_le s.packetType
  unfold State.bytesToZero
  split <;> omega

theorem State.bytesToZero_eq_zero {s : State} (h : s.bytesToZero = 0) : s.state = .zero := by
  cases hst : s.state <;> simp [State.bytesToZero, hst] at h ⊢

/-- The parser states of a frame after its type byte, in which it counts its bytes. -/
def InFrame (st : ParserState) : Prop := st = .type ∨ st = .payload ∨ st = .checkHigh ∨ st = .checkLow

section Countdown

variable {c : Byte} {s t : State}

/-- Within a frame each byte counts down by one. -/
theorem ByteEffect.bytesToZero_of_inFrame (heffect : ByteEffect c s t)
    (hpay : s.state = .payload → s.idx.toNat < s.length) (hframe : InFrame s.state) :
    t.bytesToZero + 1 = s.bytesToZero := by
  have hstate := heffect.state
  obtain hst | hst | hst | hst := hframe <;> rw [hst] at hstate
  case inl =>
    have hidx := heffect.toNat_idx_of_type hst
    have hlen := heffect.length_eq (by simp [hst])
    by_cases hnone : dataLength s.packetType = 0
    · simp only [State.bytesToZero, hst, hstate.trans (if_pos hnone), State.length, hnone]
    · simp only [State.bytesToZero, hst, hstate.trans (if_neg hnone)]
      omega
  case inr.inl =>
    have hlt := hpay hst
    have hidx := heffect.toNat_idx_of_payload hst hlt
    have hlen := heffect.length_eq (by simp [hst])
    by_cases hlast : s.idx.toNat + 1 = dataLength s.packetType
    · simp only [State.bytesToZero, hst, hstate.trans (if_pos hlast), State.length]
      omega
    · simp only [State.bytesToZero, hst, hstate.trans (if_neg hlast)]
      omega
  case inr.inr.inl => simp only [State.bytesToZero, hst, hstate, ParserState.afterByte]
  case inr.inr.inr => simp only [State.bytesToZero, hst, hstate, ParserState.afterByte]

theorem ByteEffect.bytesToZero_lt (heffect : ByteEffect c s t)
    (hpay : s.state = .payload → s.idx.toNat < s.length) (hst : s.state ≠ .zero) :
    t.bytesToZero < s.bytesToZero := by
  have hstate := heffect.state
  have hframe := heffect.bytesToZero_of_inFrame hpay
  cases hs : s.state with
  | zero => exact absurd hs hst
  | syncS =>
    rw [hs, ParserState.afterByte] at hstate
    split at hstate <;> simp [State.bytesToZero, hs, hstate]
  | syncSn =>
    rw [hs, ParserState.afterByte] at hstate
    split at hstate <;> simp [State.bytesToZero, hs, hstate]
  | syncSnp =>
    rw [hs, ParserState.afterByte] at hstate
    have hlen : t.length ≤ 60 := dataLength_le t.packetType
    simp only [State.bytesToZero, hs, hstate]
    omega
  | type | payload | checkHigh | checkLow =>
    have hcount := hframe (by simp [InFrame, hs])
    omega

/-- Until its last byte a frame stays a frame. -/
theorem inFrame_afterByte {i : BitVec 6} {pt : Byte} {st : ParserState} (hframe : InFrame st) (hlow : st ≠ .checkLow) :
    InFrame (st.afterByte i pt c) := by
  obtain rfl | rfl | rfl | rfl := hframe
  · rw [ParserState.afterByte]
    split <;> simp [InFrame]
  · rw [ParserState.afterByte]
    split <;> simp [InFrame]
  · simp [InFrame, ParserState.afterByte]
  · exact absurd rfl hlow

end Countdown

theorem stepByte_idx_lt_length {c : Byte} {s t : State} (h : stepByte c s = .next t)
    (hpay : s.state = .payload → s.idx.toNat < s.length) (ht : t.state = .payload) : t.idx.toNat < t.length :=
  (stepByte_effect h).idx_lt_length hpay ht

theorem feed_reaches_zero {s : State} {bytes : List Byte} (hpay : s.state = .payload → s.idx.toNat < s.length)
    (hlen : s.bytesToZero ≤ bytes.length) :
    ∃ k ≤ bytes.length, ∃ t, feed (bytes.take k) s = .next t ∧ t.state = .zero := by
  induction bytes generalizing s with
  | nil => exact ⟨0, Nat.le_refl 0, s, rfl, State.bytesToZero_eq_zero (Nat.le_zero.1 hlen)⟩
  | cons c bytes ih =>
    by_cases hst : s.state = .zero
    · exact ⟨0, Nat.zero_le _, s, rfl, hst⟩
    · obtain ⟨t, hstep⟩ := stepByte_total c s
      have hlt : t.bytesToZero < s.bytesToZero := (stepByte_effect hstep).bytesToZero_lt hpay hst
      rw [List.length_cons] at hlen
      obtain ⟨k, hk, u, hfeed, hu⟩ := ih (stepByte_idx_lt_length hstep hpay) (by omega)
      refine ⟨k + 1, Nat.succ_le_succ hk, u, ?_, hu⟩
      rw [List.take_succ_cons, feed_cons s hstep, hfeed]

/-- Settles O55: every byte counts down from at most 66. -/
theorem parserReturnsWithinSixtySixBytes : Obligations.ParserReturnsWithinSixtySixBytes := by
  unfold Obligations.ParserReturnsWithinSixtySixBytes
  intro s bytes hinv hlen
  obtain ⟨k, hk, hreach⟩ := feed_reaches_zero hinv.payload (hlen ▸ s.bytesToZero_le)
  exact ⟨k, hlen ▸ hk, hreach⟩

/-! ### A frame's end (R268) -/

/-- The last of the bytes makes the one report and returns the parser to `ZERO`; no earlier one does. -/
structure EndsFrame (bytes : List Byte) (s t : State) : Prop where
  fed : Fed bytes s t [t.frameOk]
  state : t.state = .zero
  frameDone : t.frameDone = true
  before : ∀ k < bytes.length, ∀ u, feed (bytes.take k) s = .next u → u.state ≠ .zero

namespace EndsFrame

variable {c : Byte} {bytes : List Byte} {s t u : State}

theorem last (hst : s.state = .checkLow) (hstep : stepByte c s = .next t) : EndsFrame [c] s t := by
  have hdone : t.frameDone = true := by simp [stepByte_frameDone hstep, hst]
  have hfed := Fed.cons hstep .nil
  rw [State.report, hdone] at hfed
  refine ⟨hfed, by rw [stepByte_state hstep, hst]; rfl, hdone, fun k hk u hfeed => ?_⟩
  obtain rfl : k = 0 := Nat.lt_one_iff.1 hk
  cases hfeed
  simp [hst]

theorem cons (hzero : s.state ≠ .zero) (hlow : s.state ≠ .checkLow) (hstep : stepByte c s = .next t)
    (h : EndsFrame bytes t u) : EndsFrame (c :: bytes) s u := by
  have hquiet : t.frameDone = false := by simp [stepByte_frameDone hstep, hlow]
  refine ⟨.cons_quiet hstep hquiet h.fed, h.state, h.frameDone, fun k hk v hfeed => ?_⟩
  cases k with
  | zero => cases hfeed; exact hzero
  | succ k =>
    rw [List.take_succ_cons, feed_cons s hstep] at hfeed
    exact h.before k (Nat.lt_of_succ_lt_succ hk) v hfeed

end EndsFrame

theorem exists_endsFrame {s : State} {bytes : List Byte} (hpay : s.state = .payload → s.idx.toNat < s.length)
    (hframe : InFrame s.state) (hlen : bytes.length = s.bytesToZero) : ∃ t, EndsFrame bytes s t := by
  have hzero : s.state ≠ .zero := by rintro hst; simp [InFrame, hst] at hframe
  induction bytes generalizing s with
  | nil => exact absurd (State.bytesToZero_eq_zero hlen.symm) hzero
  | cons c bytes ih =>
    obtain ⟨t, hstep⟩ := stepByte_total c s
    have hcount : t.bytesToZero + 1 = s.bytesToZero := (stepByte_effect hstep).bytesToZero_of_inFrame hpay hframe
    rw [List.length_cons] at hlen
    by_cases hlow : s.state = .checkLow
    · have hone : s.bytesToZero = 1 := by simp [State.bytesToZero, hlow]
      obtain rfl : bytes = [] := List.length_eq_zero_iff.1 (by omega)
      exact ⟨t, .last hlow hstep⟩
    · have hframe' : InFrame t.state := stepByte_state hstep ▸ inFrame_afterByte hframe hlow
      have hzero' : t.state ≠ .zero := by rintro hst; simp [InFrame, hst] at hframe'
      obtain ⟨u, hends⟩ := ih (stepByte_idx_lt_length hstep hpay) hframe' (by omega) hzero'
      exact ⟨u, .cons hzero hlow hstep hends⟩

/-- Settles O54: the type byte sets the countdown, and its length leaves at most 63 bytes. -/
theorem frameEndsAfterItsLength : Obligations.FrameEndsAfterItsLength := by
  unfold Obligations.FrameEndsAfterItsLength
  intro s c bytes hst hlen
  obtain ⟨t, hstep⟩ := stepByte_total c s
  have htype : t.state = .type := by rw [stepByte_state hstep, hst]; rfl
  have hpt : t.packetType = c := (stepByte_effect hstep).packetType.trans (if_pos hst)
  have hcount : bytes.length = t.bytesToZero := by
    simp only [State.bytesToZero, htype, State.length, hpt, hlen]
  obtain ⟨u, hrest⟩ := exists_endsFrame (by simp [htype]) (.inl htype) hcount
  have hends := EndsFrame.cons (by simp [hst]) (by simp [hst]) hstep hrest
  have hle := dataLength_le c
  refine ⟨?_, ⟨u, hends.fed.feed_eq, hends.state, hends.frameDone⟩, ?_, hends.before⟩
  · rw [List.length_cons]
    omega
  · rw [hends.fed.reports_eq, List.length_singleton]

/-! ### The software call (R233) -/

theorem parseNext_cons {c : Byte} {s t : State} (h : stepByte c s = .next t) (bytes : List Byte) :
    parseNext s (c :: bytes) = if t.frameDone then some (t, t.frameOk, bytes) else parseNext t bytes := by
  rw [parseNext, h]

theorem reports_cons {c : Byte} {s t : State} (h : stepByte c s = .next t) (bytes : List Byte) :
    reports (c :: bytes) s = if t.frameDone then t.frameOk :: reports bytes t else reports bytes t := by
  rw [reports, h]

theorem parseNext_eq_none_iff {s : State} {bytes : List Byte} : parseNext s bytes = none ↔ reports bytes s = [] := by
  induction bytes generalizing s with
  | nil => exact iff_of_true rfl rfl
  | cons c bytes ih =>
    obtain ⟨t, hstep⟩ := stepByte_total c s
    rw [parseNext_cons hstep, reports_cons hstep]
    cases t.frameDone
    · exact ih
    · simp

/-- The call returns with the first report: the bytes it used make that report and no other. -/
theorem parseNext_eq_some {s t : State} {bytes rest : List Byte} {ok : Bool}
    (h : parseNext s bytes = some (t, ok, rest)) :
    t.state = .zero ∧ t.frameDone = true ∧ t.frameOk = ok ∧ ∃ used, bytes = used ++ rest ∧ Fed used s t [ok] := by
  induction bytes generalizing s with
  | nil => cases h
  | cons c bytes ih =>
    obtain ⟨u, hstep⟩ := stepByte_total c s
    rw [parseNext_cons hstep] at h
    cases hdone : u.frameDone
    · rw [hdone] at h
      obtain ⟨hst, hreport, hok, used, rfl, hfed⟩ := ih h
      exact ⟨hst, hreport, hok, c :: used, rfl, .cons_quiet hstep hdone hfed⟩
    · rw [hdone] at h
      cases h
      have hlow : s.state = .checkLow := by simpa [hdone] using stepByte_frameDone hstep
      have hfed := Fed.cons hstep .nil
      rw [State.report, hdone] at hfed
      exact ⟨by rw [stepByte_state hstep, hlow]; rfl, hdone, rfl, [c], rfl, hfed⟩

/-- Settles O57: the call follows the stream to its first report. -/
theorem parseNextStopsAtTheFirstReport : Obligations.ParseNextStopsAtTheFirstReport := by
  unfold Obligations.ParseNextStopsAtTheFirstReport
  refine fun s bytes => ⟨parseNext_eq_none_iff, fun t ok rest h => ?_⟩
  obtain ⟨hst, hdone, hok, used, hused, hfed⟩ := parseNext_eq_some h
  exact ⟨hst, hdone, hok, used, hused, hfed.feed_eq, hfed.reports_eq⟩

end Sys2Proof.Machine
end

section
/-! ## Whole frames: acceptance, rejection, and the command frame (R90, R161, R210, R212) -/

namespace Sys2Proof.Machine

theorem length_frameWith (pt a : Byte) (payload : List Byte) (sum : Half) :
    (frameWith pt a payload sum).length = 7 + payload.length := by
  simp only [frameWith, List.length_append, List.length_cons, List.length_nil]
  omega

/-! ### The state after a frame: the Packet it holds and the Device State -/

section AfterFrame

variable (s : State) (pt a : Byte) (payload : List Byte) (sum : Half)

@[simp] theorem State.afterFrame_frameDone : (s.afterFrame pt a payload sum).frameDone = true :=
  State.conclude_frameDone _

@[simp] theorem State.afterFrame_idx : (s.afterFrame pt a payload sum).idx = BitVec.ofNat 6 payload.length :=
  State.conclude_idx _

theorem State.afterFrame_checksum :
    be16 (s.afterFrame pt a payload sum).checksum1 (s.afterFrame pt a payload sum).checksum0 = sum := by
  rw [State.afterFrame, State.conclude_checksum1, State.conclude_checksum0]
  exact be16_highByte_lowByte sum

/-- The report says whether the Packet left in the registers is valid. -/
theorem State.afterFrame_packetValid :
    (s.afterFrame pt a payload sum).packetValid = (s.afterFrame pt a payload sum).frameOk := by
  rw [State.afterFrame, State.conclude_packetValid, State.conclude_frameOk]

variable {s pt payload}

theorem State.readData_afterFrame (hwf : Memory.wf s.data = true) (hlen : payload.length = dataLength pt) (i : Nat) :
    (s.afterFrame pt a payload sum).readData i = (payload[i]?).getD (s.readData i) := by
  rw [State.readData, State.afterFrame_data]
  exact Memory.read_writePayload hwf (length_le_dataCap hlen) i

variable {a sum}

/-- An accepted frame is decoded as its Packet alone would be: what the parser holds beside it plays no part. -/
theorem State.afterFrame_device_of_accepted (hok : (s.afterFrame pt a payload sum).frameOk = true) :
    (s.afterFrame pt a payload sum).device =
      (State.decodeWith (selectField s.config a)
        { s with packetType := pt, address := a, data := (s.afterFrame pt a payload sum).data }).device := by
  rw [State.afterFrame_data]
  rw [State.afterFrame, State.conclude_frameOk] at hok
  rw [State.afterFrame, State.conclude_of_valid hok, State.fieldDecode_eq_decodeWith]
  exact State.decodeWith_device_eq (selectField s.config a) rfl rfl (fun _ _ => rfl) rfl

theorem State.afterFrame_device_of_rejected (hok : (s.afterFrame pt a payload sum).frameOk = false) :
    (s.afterFrame pt a payload sum).device = s.device := by
  rw [State.afterFrame, State.conclude_frameOk] at hok
  rw [State.afterFrame, State.conclude_of_invalid (by simp [hok])]
  rfl

end AfterFrame

/-- Settles O51: the frame's own sum is the computed one, so its one report is of acceptance. -/
theorem wellFormedFrameIsAccepted : Obligations.WellFormedFrameIsAccepted := by
  unfold Obligations.WellFormedFrameIsAccepted
  intro s pt a payload hst hwf hlen
  have hfed := fed_frameWith a hst hlen (frameSum pt a payload)
  have hok : (s.afterFrame pt a payload (frameSum pt a payload)).frameOk = true := by
    rw [State.afterFrame_frameOk a _ hwf hlen, decide_eq_true rfl]
  rw [hok] at hfed
  exact ⟨_, _, hfed.feed_eq, hfed.reports_eq, length_frameWith .., State.afterFrame_state .., State.afterFrame_frameDone .., hok,
    State.afterFrame_packetType .., State.afterFrame_address .., State.afterFrame_checksum ..,
    (State.afterFrame_packetValid ..).trans hok, State.readData_afterFrame a _ hwf hlen, exec_instr _ _,
    State.afterFrame_device_of_accepted hok⟩

/-- Settles O52: any other sum differs from the computed one, so the one report is of rejection. -/
theorem corruptedChecksumIsRejected : Obligations.CorruptedChecksumIsRejected := by
  unfold Obligations.CorruptedChecksumIsRejected
  intro s pt a payload sum hst hwf hlen hsum
  have hfed := fed_frameWith a hst hlen sum
  have hok : (s.afterFrame pt a payload sum).frameOk = false := by
    rw [State.afterFrame_frameOk a sum hwf hlen, decide_eq_false hsum]
  rw [hok] at hfed
  exact ⟨_, hfed.feed_eq, hfed.reports_eq, State.afterFrame_frameDone .., hok, State.afterFrame_state ..,
    State.afterFrame_device_of_rejected hok, State.afterFrame_packetType .., State.afterFrame_address ..,
    State.afterFrame_checksum .., (State.afterFrame_packetValid ..).trans hok, State.readData_afterFrame a sum hwf hlen⟩

/-! ### The command frame as an instruction and as seven steps (R210, R212, log entry 12) -/

/-- `s` with other inputs to come and another report of the last step: what no byte rule reads. -/
def State.withPorts (s : State) (ins : List Ports) (done ok : Bool) : State :=
  { s with inputs := ins, frameDone := done, frameOk := ok }

section WithPorts

variable {s t : State} {c : Byte} (ins : List Ports) (done ok : Bool)

theorem State.decodeWith_withPorts (op : FieldOp) (s : State) :
    (s.withPorts ins done ok).decodeWith op = (s.decodeWith op).withPorts ins done ok := by
  cases op <;> rfl

theorem State.conclude_withPorts (s : State) :
    (s.withPorts ins done ok).conclude = { s.conclude with inputs := ins } := by
  by_cases hvalid : s.packetValid = true
  · rw [State.conclude_of_valid hvalid, State.conclude_of_valid (s := s.withPorts ins done ok) hvalid,
      State.fieldDecode_eq_decodeWith, State.decodeWith_withPorts, State.fieldDecode_eq_decodeWith]
    rfl
  · rw [State.conclude_of_invalid hvalid, State.conclude_of_invalid (s := s.withPorts ins done ok) hvalid]
    rfl

/-- A byte rule neither reads the inputs to come nor the last report, and writes its own report. -/
theorem consumeByte_withPorts (h : consumeByte c s = .next t) :
    consumeByte c (s.withPorts ins done ok) = .next { t with inputs := ins } := by
  have hstate : (s.withPorts ins done ok).state = s.state := rfl
  revert h
  unfold consumeByte
  rw [hstate]
  cases classify s.state c with
  | ckl =>
    intro h
    cases (exec_ckl s c).symm.trans h
    exact (exec_ckl _ c).trans (congrArg _ (State.conclude_withPorts ins done ok (s.setChecksum0 c)))
  | _ => rintro ⟨⟩; rfl

/-- The step that presents a byte makes of the parser what the byte alone makes of it. -/
theorem stepByte_withPorts (h : consumeByte c s = .next t) :
    stepByte c (s.withPorts ins done ok) = .next (t.withPorts [] t.frameDone t.frameOk) :=
  (step_ofByte _ rfl).trans (consumeByte_withPorts (s := s) [] false false h)

theorem feed_withPorts {bytes : List Byte} (h : consumeBytes bytes s = .next t) :
    feed bytes (s.withPorts [] s.frameDone s.frameOk) = .next (t.withPorts [] t.frameDone t.frameOk) := by
  induction bytes generalizing s with
  | nil => cases h; rfl
  | cons c bytes ih =>
    obtain ⟨u, hu⟩ := consumeByte_total c s
    rw [consumeBytes_cons s hu] at h
    rw [feed_cons _ (stepByte_withPorts _ _ _ hu)]
    exact ih h

end WithPorts

/-- Settles O60: a byte and the step that presents it differ in the inputs to come alone, which the first step takes
away. -/
theorem commandIsItsSevenSteps : Obligations.CommandIsItsSevenSteps := by
  unfold Obligations.CommandIsItsSevenSteps
  intro s a
  obtain ⟨t, ht⟩ := consumeBytes_total (commandFrame a) s
  exact ⟨t, ht, feed_withPorts ht⟩

/-- With no payload the checksum is the frame's sum whatever the buffer holds. -/
theorem computedChecksum_of_noPayload (a : Byte) (m : List Host.Cell) :
    computedChecksum 0x00#8 a m = frameSum 0x00#8 a [] := rfl

theorem State.afterFrame_frameOk_of_noPayload (s : State) (a : Byte) :
    (s.afterFrame 0x00#8 a [] (frameSum 0x00#8 a [])).frameOk = true := by
  rw [State.afterFrame, State.conclude_frameOk, State.packetValid_iff]
  exact (be16_highByte_lowByte _).trans (computedChecksum_of_noPayload a _).symm

/-- Settles O59: from `ZERO` the seven steps are a well-formed frame without payload, and CMD keeps the inputs to come. -/
theorem commandFrameIsAccepted : Obligations.CommandFrameIsAccepted := by
  unfold Obligations.CommandFrameIsAccepted
  intro s a hst
  obtain ⟨t, hexec, hfeed⟩ := commandIsItsSevenSteps s a
  obtain ⟨hcfg, hin⟩ := noInstructionChangesParametersOrInputs _ s t hexec
  have hframe : feed (commandFrame a) s = .next (s.afterFrame 0x00#8 a [] (frameSum 0x00#8 a [])) :=
    (fed_frameWith (pt := 0x00#8) (payload := []) a hst rfl _).feed_eq
  have ht : { t with inputs := [] } = s.afterFrame 0x00#8 a [] (frameSum 0x00#8 a []) :=
    Host.Outcome.next.inj (hfeed.symm.trans hframe)
  have hok := s.afterFrame_frameOk_of_noPayload a
  have hsum : be16 t.checksum1 t.checksum0 = frameSum 0x00#8 a [] :=
    (congrArg (fun t : State => be16 t.checksum1 t.checksum0) ht).trans (State.afterFrame_checksum ..)
  rw [be16_eq_iff, toNat_frameSum_of_noPayload] at hsum
  have hdevice := State.afterFrame_device_of_accepted hok
  rw [State.afterFrame_data, Memory.writePayload_nil] at hdevice
  exact ⟨t, _, hexec, (congrArg State.state ht).trans (State.afterFrame_state ..),
    (congrArg State.frameDone ht).trans (State.afterFrame_frameDone ..), (congrArg State.frameOk ht).trans hok,
    (congrArg State.packetType ht).trans (State.afterFrame_packetType ..),
    (congrArg State.address ht).trans (State.afterFrame_address ..),
    (congrArg State.idx ht).trans (State.afterFrame_idx ..), (congrArg State.data ht).trans (State.afterFrame_data ..),
    hsum, hcfg, hin, exec_instr _ _, (congrArg State.device ht).trans hdevice⟩

end Sys2Proof.Machine
end
